-- ==== Sys2Proof/Word.lean ====
section
/-! DEFINITION. The words of the part: a byte of a telegram, the tick count, a flag set. -/

namespace Sys2Proof

/-- A byte as sent on the coordination bus (R164). -/
abbrev Byte := BitVec 8

/-- A value of the tick count; it is 32 bits wide and wraps (R49). -/
abbrev Tick := BitVec 32

/-- A flag set or mask: bit n is flag position n (12.6). -/
abbrev FlagWord := BitVec 16

end Sys2Proof
end

