-- ==== Sys2Proof/Syntax.lean ====
section
/-! DEFINITION. The commands of the part: one constructor of `Instr` per row of spec/opcode_table.json. -/

namespace Sys2Proof

/-- A grate-fired line, in letter order (00_scope 1.1). -/
inductive Line where
  | a | b | c
  deriving DecidableEq, Repr

/-- The six pacing generators of a line, numbers 1 to 6 (R93). -/
inductive Gen where
  | feed | z1 | z2 | z3 | nox | acid
  deriving DecidableEq, Repr

/-- The generators that drive strokes and sense a stroke-complete input (R93). -/
inductive StrokeGen where
  | feed | z1 | z2 | z3
  deriving DecidableEq, Repr

/-- The two dosing channels of a line (R153). -/
inductive Channel where
  | nox | acid
  deriving DecidableEq, Repr

/-- The six pollutant channels of a line (R117), codes 1 to 6 (12.4). -/
inductive Pollutant where
  | co | nox | so2 | hcl | dust | toc
  deriving DecidableEq, Repr

/-- The stations with rights at the part, numbers 1 to 6 (R171). -/
inductive Station where
  | lineCtl (l : Line)
  | turbine
  | cleaning
  | supervisory
  deriving DecidableEq, Repr

/-- The kind of an edge on an input, and the parameters that select one (R26, R116). -/
inductive Edge where
  | rising | falling
  deriving DecidableEq, Repr

/-- The 36 kinds of request (12.2). -/
inductive Kind where
  | lineStart | connectRequest | connectCancel | connectDone | feedHold | feedRelease | lineStop
  | burnoutDone | lineTrip | tripReset | startupFeed | sourceSelect | manualStroke | faultClear
  | lineRead | generatorRead | headerState | turbineState | dispatchRead | sample | doseOverride
  | doseAuto | dosingRead | ledgerRead | clockSet | scheduleAdd | scheduleWithdraw | scheduleRead
  | auxSet | configWrite | configRead | budgetLoad | lockoutClear | flagsRead | maskWrite
  | notifyMode
  deriving DecidableEq, Repr

/-- What a telegram carries besides its kind (12.1): source, destination and selector bytes and the
payload. The length byte is the payload's length and the check byte is computed (R168). -/
structure Frame where
  src : Byte
  dst : Byte
  selector : Byte
  payload : List Byte
  deriving DecidableEq, Repr

/-- What the receiver found wrong with a telegram (R165). -/
inductive Discard where
  /-- a byte whose tenth bit is dominant -/
  | badStop
  /-- a length byte above 48 -/
  | badLength (len : Byte)
  /-- a check byte that is not the check of the bytes before it -/
  | badCheck (body : List Byte) (check : Byte)
  deriving DecidableEq, Repr

/-- The commands: every row of spec/opcode_table.json, in the table's order. -/
inductive Instr where
  | pinReset
  | resetRelease (lns : BitVec 2) (adr : BitVec 3)
  | lineStart (f : Frame)
  | connectRequest (f : Frame)
  | connectCancel (f : Frame)
  | connectDone (f : Frame)
  | feedHold (f : Frame)
  | feedRelease (f : Frame)
  | lineStop (f : Frame)
  | burnoutDone (f : Frame)
  | lineTrip (f : Frame)
  | tripReset (f : Frame)
  | startupFeed (f : Frame)
  | sourceSelect (f : Frame)
  | manualStroke (f : Frame)
  | faultClear (f : Frame)
  | lineRead (f : Frame)
  | generatorRead (f : Frame)
  | headerState (f : Frame)
  | turbineState (f : Frame)
  | dispatchRead (f : Frame)
  | sample (f : Frame)
  | doseOverride (f : Frame)
  | doseAuto (f : Frame)
  | dosingRead (f : Frame)
  | ledgerRead (f : Frame)
  | clockSet (f : Frame)
  | scheduleAdd (f : Frame)
  | scheduleWithdraw (f : Frame)
  | scheduleRead (f : Frame)
  | auxSet (f : Frame)
  | configWrite (f : Frame)
  | configRead (f : Frame)
  | budgetLoad (f : Frame)
  | lockoutClear (f : Frame)
  | flagsRead (f : Frame)
  | maskWrite (f : Frame)
  | notifyMode (f : Frame)
  | unknownKindRequest (kind : Byte) (f : Frame)
  | telegramIgnored (kind : Byte) (f : Frame)
  | telegramDiscard (d : Discard)
  | busGapDiscard
  | receiverReset
  | recoveryEnd
  | answerSend
  | answerDone
  | answerCollision (readBack : List Byte)
  | strokeCompleteEdge (l : Line) (g : StrokeGen) (e : Edge)
  | strokeMaxLapse (l : Line) (g : StrokeGen)
  | pulseComplete (l : Line) (c : Channel)
  | countdownExpiry (l : Line) (g : Gen)
  | steamPulse (l : Line) (e : Edge)
  | headerStale
  | turbineSilent
  | turbineLost
  | connectTimeout
  | notifyPulseEnd (st : Station)
  | slotClose
  | minuteEvent
  | holdEnd
  | busRested
  | noiseBurst
  deriving DecidableEq, Repr

end Sys2Proof
end

