-- ==== Sys2Proof/Decode.lean ====
section
/-! DEFINITION. The check byte (R168), the kind codes (12.2), the bytes of a telegram and the command that bytes
on the bus spell (12.1, R165, R167), and the host's `decodeTableWord`. -/

namespace Sys2Proof

/-- One of the eight steps of the check register (R168). -/
def crcShift (r : Byte) : Byte :=
  if r.msb then (r <<< 1) ^^^ 0x1D#8 else r <<< 1

/-- The register after one more byte: exclusive-or, then eight steps (R168). -/
def crcByte (r b : Byte) : Byte :=
  crcShift (crcShift (crcShift (crcShift (crcShift (crcShift (crcShift (crcShift (r ^^^ b))))))))

/-- The check byte over a list of bytes, from a register of FFh (R168). -/
def checkByte (bytes : List Byte) : Byte :=
  bytes.foldl crcByte 0xFF#8

/-- The kind code of a request (12.2). -/
def Kind.code : Kind → Byte
  | .lineStart => 0x01#8
  | .connectRequest => 0x02#8
  | .connectCancel => 0x03#8
  | .connectDone => 0x04#8
  | .feedHold => 0x05#8
  | .feedRelease => 0x06#8
  | .lineStop => 0x07#8
  | .burnoutDone => 0x08#8
  | .lineTrip => 0x09#8
  | .tripReset => 0x0A#8
  | .startupFeed => 0x0B#8
  | .sourceSelect => 0x0C#8
  | .manualStroke => 0x0D#8
  | .faultClear => 0x0E#8
  | .lineRead => 0x0F#8
  | .generatorRead => 0x10#8
  | .headerState => 0x20#8
  | .turbineState => 0x21#8
  | .dispatchRead => 0x22#8
  | .sample => 0x30#8
  | .doseOverride => 0x31#8
  | .doseAuto => 0x32#8
  | .dosingRead => 0x33#8
  | .ledgerRead => 0x34#8
  | .clockSet => 0x40#8
  | .scheduleAdd => 0x41#8
  | .scheduleWithdraw => 0x42#8
  | .scheduleRead => 0x43#8
  | .auxSet => 0x44#8
  | .configWrite => 0x45#8
  | .configRead => 0x46#8
  | .budgetLoad => 0x47#8
  | .lockoutClear => 0x48#8
  | .flagsRead => 0x50#8
  | .maskWrite => 0x51#8
  | .notifyMode => 0x52#8

/-- The kinds in the order of 12.2. -/
def Kind.all : List Kind :=
  [.lineStart, .connectRequest, .connectCancel, .connectDone, .feedHold, .feedRelease, .lineStop,
   .burnoutDone, .lineTrip, .tripReset, .startupFeed, .sourceSelect, .manualStroke, .faultClear,
   .lineRead, .generatorRead, .headerState, .turbineState, .dispatchRead, .sample] ++
  [.doseOverride, .doseAuto, .dosingRead, .ledgerRead, .clockSet, .scheduleAdd, .scheduleWithdraw,
   .scheduleRead, .auxSet, .configWrite, .configRead, .budgetLoad, .lockoutClear, .flagsRead,
   .maskWrite, .notifyMode]

/-- The kind a kind byte names, if the part knows it (R170, check 2). -/
def kindOfCode (b : Byte) : Option Kind :=
  Kind.all.find? (fun k => k.code == b)

/-- The command of a request of a known kind. -/
def Instr.ofKind (k : Kind) (f : Frame) : Instr :=
  match k with
  | .lineStart => .lineStart f
  | .connectRequest => .connectRequest f
  | .connectCancel => .connectCancel f
  | .connectDone => .connectDone f
  | .feedHold => .feedHold f
  | .feedRelease => .feedRelease f
  | .lineStop => .lineStop f
  | .burnoutDone => .burnoutDone f
  | .lineTrip => .lineTrip f
  | .tripReset => .tripReset f
  | .startupFeed => .startupFeed f
  | .sourceSelect => .sourceSelect f
  | .manualStroke => .manualStroke f
  | .faultClear => .faultClear f
  | .lineRead => .lineRead f
  | .generatorRead => .generatorRead f
  | .headerState => .headerState f
  | .turbineState => .turbineState f
  | .dispatchRead => .dispatchRead f
  | .sample => .sample f
  | .doseOverride => .doseOverride f
  | .doseAuto => .doseAuto f
  | .dosingRead => .dosingRead f
  | .ledgerRead => .ledgerRead f
  | .clockSet => .clockSet f
  | .scheduleAdd => .scheduleAdd f
  | .scheduleWithdraw => .scheduleWithdraw f
  | .scheduleRead => .scheduleRead f
  | .auxSet => .auxSet f
  | .configWrite => .configWrite f
  | .configRead => .configRead f
  | .budgetLoad => .budgetLoad f
  | .lockoutClear => .lockoutClear f
  | .flagsRead => .flagsRead f
  | .maskWrite => .maskWrite f
  | .notifyMode => .notifyMode f

/-- Header and payload of a telegram: source, destination, kind, selector, length, payload (12.1). -/
def telegramBody (kind : Byte) (f : Frame) : List Byte :=
  [f.src, f.dst, kind, f.selector, BitVec.ofNat 8 f.payload.length] ++ f.payload

/-- A telegram as sent, its check byte last (R168). -/
def telegramBytes (kind : Byte) (f : Frame) : List Byte :=
  telegramBody kind f ++ [checkByte (telegramBody kind f)]

/-- Whether a source byte is a station 1..6 (R170, check 1). -/
def knownSource (src : Byte) : Bool :=
  1 ≤ src.toNat && src.toNat ≤ 6

/-- The three kinds taken from broadcast, each from its one station (R167). -/
def broadcastTaken (k : Kind) (src : Byte) : Bool :=
  (k == .clockSet && src == 6#8) || (k == .headerState && src == 4#8) ||
    (k == .turbineState && src == 4#8)

/-- The command a checked telegram is, at a part with the given address (R167, R170). -/
def commandOfTelegram (address kind : Byte) (f : Frame) : Instr :=
  if f.src = address then .telegramIgnored kind f
  else if f.dst = address then
    if knownSource f.src then
      match kindOfCode kind with
      | some k => Instr.ofKind k f
      | none => .unknownKindRequest kind f
    else .unknownKindRequest kind f
  else if f.dst = 0#8 then
    match kindOfCode kind with
    | some k => if broadcastTaken k f.src then Instr.ofKind k f else .telegramIgnored kind f
    | none => .telegramIgnored kind f
  else .telegramIgnored kind f

/-- The command that bytes on the bus spell (R165, R167): a telegram that stops short is a gap, a length byte
above 48 or a wrong check byte a discard; bytes after the check byte belong to no telegram and are not read. -/
def commandOfBytes (address : Byte) : List Byte → Instr
  | src :: dst :: kind :: sel :: len :: rest =>
    if 48 < len.toNat then .telegramDiscard (.badLength len)
    else
      match rest.drop len.toNat with
      | [] => .busGapDiscard
      | check :: _ =>
        let f : Frame := ⟨src, dst, sel, rest.take len.toNat⟩
        if checkByte (telegramBody kind f) = check then commandOfTelegram address kind f
        else .telegramDiscard (.badCheck (telegramBody kind f) check)
  | _ => .busGapDiscard

/-- The command a table word spells: the table gives no row any bits, so no word spells one. -/
def decodeTableWord (_nbits _w : Nat) : Option Instr :=
  none

end Sys2Proof
end

