-- ==== Sys2Proof/Config.lean ====
section
/-! DEFINITION. What the spec leaves open: free values without a body, so that nothing can be proved of them. -/

namespace Sys2Proof.Config

/-- DESIGN CHOICE (log 2): which of two hand-offs is taken first, where the spec leaves their order open
(R20, R31, R41, R57, R86, R140, R160, R173). `State.tieCount` numbers the choices. -/
opaque tieOrder : Nat → Bool

/-- DESIGN CHOICE (log 3): a byte of an answer to which the spec gives a place and no value.
`State.freeCount` numbers them. -/
opaque freeByte : Nat → Byte

end Sys2Proof.Config
end

