-- ==== Sys2Proof/Machine/State.lean ====
section
/-! DEFINITION. The state of the part, plain data, one field per functional block (00_scope 2.1), and its value
right after pin reset. INVENTORY.md lists every piece with its rule. -/

namespace Sys2Proof.Machine

/-! ### Fixed numbers of like things -/

/-- One of each line. -/
structure PerLine (α : Type) where
  a : α
  b : α
  c : α
  deriving DecidableEq, Repr

/-- One of each generator of a line (R93). -/
structure PerGen (α : Type) where
  feed : α
  z1 : α
  z2 : α
  z3 : α
  nox : α
  acid : α
  deriving DecidableEq, Repr

/-- One of each stroke generator of a line (R93). -/
structure PerStroke (α : Type) where
  feed : α
  z1 : α
  z2 : α
  z3 : α
  deriving DecidableEq, Repr

/-- One of each dosing channel of a line (R153). -/
structure PerChannel (α : Type) where
  nox : α
  acid : α
  deriving DecidableEq, Repr

/-- One of each pollutant of a line (R117). -/
structure PerPollutant (α : Type) where
  co : α
  nox : α
  so2 : α
  hcl : α
  dust : α
  toc : α
  deriving DecidableEq, Repr

/-- One of each station (11.0). -/
structure PerStation (α : Type) where
  lineCtl : PerLine α
  turbine : α
  cleaning : α
  supervisory : α
  deriving DecidableEq, Repr

/-! ### Bus port (chapter 10) -/

/-- The receiver states (10.2). -/
inductive Receiver where
  | idle | receiving | answering | recovering
  deriving DecidableEq, Repr

/-- The answer codes (10.6). -/
inductive Code where
  | accepted | acceptedClamped | acceptedReplaced | unknownKind | badLength | notPermitted
  | wrongLine | badState | badValue | notConfigured | locked | queueFull | late | notFound | busy
  | clockInvalid
  deriving DecidableEq, Repr

/-- An answer in the answer buffer: its destination, the kind byte of the request, code and payload (R169). -/
structure Answer where
  dst : Byte
  kind : Byte
  code : Code
  payload : List Byte
  deriving DecidableEq, Repr

/-- A station's snapshot (R184): the kind and what it names (line, generator, pollutant, start index), and the
two parts answered from it. -/
structure Snapshot where
  kind : Kind
  names : List Nat
  part0 : List Byte
  part1 : List Byte
  deriving DecidableEq, Repr

/-- What the bus port holds (10.0, R175, R184). -/
structure BusPort where
  receiver : Receiver
  /-- bit times of recessive level since the last dominant level, 0..20 (R164) -/
  idleCount : Nat
  inProgress : List Byte
  answer : Option Answer
  /-- the answer in the buffer is being sent (R169) -/
  sending : Bool
  /-- the strap address, 8..15 (R167) -/
  address : Byte
  snapshots : PerStation (Option Snapshot)
  deriving DecidableEq, Repr

/-! ### Configuration store (10.8, 12.7) -/

/-- The PLANT group (R26, R48, R74, R136). -/
structure PlantConfig where
  written : Bool
  pLo : Nat
  pHi : Nat
  surgeRate : Nat
  connectTimeout : Nat
  bypassMax : Nat
  turbineMax : Nat
  auxMax : Nat
  /-- the shedding order, earliest first (R48) -/
  shedOrder : List Line
  deadband : Nat
  lowWater : Nat
  oRef : Nat
  /-- the powers of the characteristic table (R70) -/
  charP : List Nat
  /-- the steams of the characteristic table (R70) -/
  charS : List Nat
  deriving DecidableEq, Repr

/-- The LINE group of one line (R26, R92, R152). -/
structure LineConfig where
  written : Bool
  sMin : Nat
  sNom : Nat
  sMax : Nat
  steamPulseQ : Nat
  steamPulseEdge : Edge
  devTol : Nat
  devMinutes : Nat
  enthalpyRise : Nat
  efficiency : Nat
  lhvInit : Nat
  strokeCharge : Nat
  feedMin : Nat
  feedMax : Nat
  startupFeedMax : Nat
  lhvWeight : Nat
  lhvLag : Nat
  throttleFloor : Nat
  stepDown : Nat
  stepUp : Nat
  warn : Nat
  episodeThrottle : Nat
  episodeLimit : Nat
  allowance : Nat
  deriving DecidableEq, Repr

/-- The GENERATOR group of one generator (R116); the parameters of the other kind of generator are not its own. -/
structure GenConfig where
  written : Bool
  periodMin : Nat
  periodMax : Nat
  strokeMin : Nat
  strokeMax : Nat
  completeEdge : Edge
  zoneRatio : Nat
  pulseWidth : Nat
  deriving DecidableEq, Repr

/-- The LEDGER group of one line and pollutant (R135). -/
structure LedgerConfig where
  written : Bool
  periodLimit : Nat
  dayLimit : Nat
  gapAllowance : Nat
  throttlesFeed : Bool
  deriving DecidableEq, Repr

/-- The DOSING group of one channel (R163); the setpoints of the other channel are not its own. -/
structure DosingConfig where
  written : Bool
  kFf : Nat
  pulseG : Nat
  rateMax : Nat
  setpoint : Nat
  setpointSo2 : Nat
  setpointHcl : Nat
  kt : Nat
  trimLo : Int
  trimHi : Int
  deriving DecidableEq, Repr

/-- The configuration store: every parameter's value in force and the written marks (10.8). -/
structure ConfigStore where
  plant : PlantConfig
  line : PerLine LineConfig
  gen : PerLine (PerGen GenConfig)
  ledger : PerLine (PerPollutant LedgerConfig)
  dosing : PerLine (PerChannel DosingConfig)
  deriving DecidableEq, Repr

/-! ### Time base (chapter 3) -/

/-- The clock (3.2): the time of day, the valid mark and the hold remaining in ticks. -/
structure Clock where
  minute : Nat
  second : Nat
  hundredth : Nat
  valid : Bool
  hold : Nat
  deriving DecidableEq, Repr

/-- The time base (R49, R50). -/
structure TimeBase where
  tick : Tick
  clock : Clock
  /-- the model's own (log 4): a slot boundary is reached and its close not yet taken -/
  slotDue : Bool
  /-- the model's own (log 4): a minute boundary is reached and its event not yet taken -/
  minuteDue : Bool
  deriving DecidableEq, Repr

/-! ### Line registry (chapter 1) -/

/-- The eight line states (1.2). -/
inductive LineState where
  | offline | firingUp | connectPending | connecting | connected | hold | burnout | tripped
  deriving DecidableEq, Repr

/-- The hold reasons (R2). -/
structure Reasons where
  requested : Bool
  shed : Bool
  jam : Bool
  deriving DecidableEq, Repr

/-- The return states of HOLD (R6). -/
inductive ReturnState where
  | firingUp | connected
  deriving DecidableEq, Repr

/-- The fields of a line record the registry and the feed computation unit own (R2); the letter is the field's
place, configured is derived, assignment, lockout, feed and compliance record stand with their owners. -/
structure LineRecord where
  fitted : Bool
  state : LineState
  reasons : Reasons
  returnTo : Option ReturnState
  measured : Nat
  deviation : Nat
  startupRequest : Nat
  deriving DecidableEq, Repr

/-- The connect slot while a line holds it: the line, the grant tick, and the ticks of its connect timer, fixed at
the grant (R23, R25). -/
structure ConnectSlot where
  line : Line
  grantTick : Tick
  timeout : Nat
  deriving DecidableEq, Repr

/-- The header state record (1.7). -/
structure Header where
  pressure : Nat
  riseRate : Int
  arrival : Tick
  stale : Bool
  deriving DecidableEq, Repr

/-- The line registry. -/
structure Registry where
  lines : PerLine LineRecord
  /-- the connect queue, oldest request first (R21) -/
  queue : List Line
  slot : Option ConnectSlot
  header : Header
  deriving DecidableEq, Repr

/-! ### Steam allocator (chapter 2) -/

/-- The allocation modes (R28, R68). -/
inductive Mode where
  | steamLed | powerLed
  deriving DecidableEq, Repr

/-- The allocation record (R28). -/
structure AllocRecord where
  assigned : PerLine Nat
  /-- the turbine admission target D_s -/
  target : Nat
  /-- the bypass target B -/
  bypass : Nat
  /-- the auxiliary steam served X -/
  served : Nat
  mode : Mode
  shortfall : Bool
  revision : BitVec 16
  deriving DecidableEq, Repr

/-- The steam allocator (R28). -/
structure Allocator where
  record : AllocRecord
  shed : PerLine Bool
  flagged : PerLine Nat
  flaggedTarget : Nat
  /-- the auxiliary demand A -/
  aux : Nat
  deriving DecidableEq, Repr

/-! ### Dispatch scheduler (chapter 4) -/

/-- A dispatch block (R59). -/
structure DispatchBlock where
  day : Nat
  start : Nat
  exportTarget : Nat
  rampLimit : Nat
  duration : Option Nat
  deriving DecidableEq, Repr

/-- The active dispatch block with its minutes remaining (R58). -/
structure ActiveBlock where
  block : DispatchBlock
  remaining : Option Nat
  deriving DecidableEq, Repr

/-- The turbine states (4.4). -/
inductive TurbineState where
  | stopped | runUp | onGrid | tripped
  deriving DecidableEq, Repr

/-- The silence states (4.4). -/
inductive Silence where
  | reporting | silent | lost
  deriving DecidableEq, Repr

/-- The turbine state record (4.4). -/
structure TurbineRecord where
  reported : TurbineState
  limit : Nat
  arrival : Tick
  silence : Silence
  deriving DecidableEq, Repr

/-- The dispatch scheduler (R58). -/
structure Scheduler where
  queue : List DispatchBlock
  active : Option ActiveBlock
  /-- the ramped export E_r -/
  ramped : Nat
  /-- the last admission demand handed to the allocator (R30, R73; a field of its own: DEDUCED, log 10) -/
  handed : Nat
  turbine : TurbineRecord
  /-- the turbine ceiling C -/
  ceiling : Nat
  mode : Mode
  deriving DecidableEq, Repr

/-! ### Feed computation unit (chapter 5) -/

/-- The clamp states (R75). -/
inductive ClampState where
  | within | atPmin | atPmax
  deriving DecidableEq, Repr

/-- The estimator outcomes (R75). -/
inductive EstimatorOutcome where
  | none | updated | heldMass | heldSteam
  deriving DecidableEq, Repr

/-- A feed record (R75). Periods stand in fine units, `none` where there is none; a period in ticks is Q div 64 and
its trim Q mod 64. -/
structure FeedRecord where
  m1 : Nat
  m4 : Nat
  capped : Bool
  throttled : Bool
  raised : Bool
  held : Bool
  reference : Option Nat
  /-- the feeder period Q and the zone periods Q_1 to Q_3 -/
  periods : PerStroke (Option Nat)
  clamps : PerStroke ClampState
  paced : Nat
  /-- the heat value estimate L -/
  lhv : Nat
  strokes : Nat
  mass : Nat
  massPrev : Nat
  massPrev2 : Nat
  blockSteam : Nat
  blockValue : Option Nat
  outcome : EstimatorOutcome
  deriving DecidableEq, Repr

/-! ### Pacing generator array (chapter 6) -/

/-- The run states (R94). -/
inductive RunState where
  | stopped | idle | running | fault
  deriving DecidableEq, Repr

/-- The sources (R94). -/
inductive Source where
  | auto | manual
  deriving DecidableEq, Repr

/-- The output phases (R94). -/
inductive Phase where
  | rest | active
  deriving DecidableEq, Repr

/-- The buffer: empty, the value none, or a period in fine units (R94). -/
inductive Buffer where
  | empty | none | period (q : Nat)
  deriving DecidableEq, Repr

/-- The fault kinds (R94). -/
inductive FaultKind where
  | early | late | stray
  deriving DecidableEq, Repr

/-- A last fault: its kind, the time of day and the clock's valid mark (R94). -/
structure LastFault where
  kind : FaultKind
  minute : Nat
  second : Nat
  hundredth : Nat
  valid : Bool
  deriving DecidableEq, Repr

/-- A generator record (R94); the fields of the other kind of generator keep their reset values. -/
structure GenRecord where
  run : RunState
  source : Source
  configured : Bool
  /-- the current period in fine units -/
  current : Option Nat
  buffer : Buffer
  /-- the countdown remaining, `none` when cleared -/
  countdown : Option Nat
  trimAcc : Nat
  phase : Phase
  pending : Bool
  activeSince : Tick
  limitMin : Nat
  limitMax : Nat
  consecutive : Nat
  completed : BitVec 32
  aborted : BitVec 16
  overrun : BitVec 16
  early : BitVec 16
  late : BitVec 16
  stray : BitVec 16
  lastDuration : Option Nat
  lastFault : Option LastFault
  blockPulses : Nat
  deriving DecidableEq, Repr

/-- A steam pulse counter (R114). -/
structure SteamCounter where
  sensing : Bool
  edge : Edge
  minuteCount : Nat
  blockCount : Nat
  total : BitVec 32
  deriving DecidableEq, Repr

/-! ### Emission ledger (chapter 7) -/

/-- A stored sample (R117): a concentration marked invalid is `none`. -/
structure StoredSample where
  o2 : Nat
  values : PerPollutant (Option Nat)
  invalid : Bool
  deriving DecidableEq, Repr

/-- The status of a block record entry (R117). -/
inductive BlockStatus where
  | opened | idle | valid (mean : Nat) | invalid
  deriving DecidableEq, Repr

/-- An entry of the current-period block record, with n_op and v of its block (R117). -/
structure BlockEntry where
  status : BlockStatus
  nOp : Nat
  v : Nat
  deriving DecidableEq, Repr

/-- The status of a period or a day (R126, R131). -/
inductive MeanStatus where
  | idle | valid (mean : Nat) | invalid
  deriving DecidableEq, Repr

/-- An entry of the period history (R127). -/
structure HistoryEntry where
  start : Nat
  yesterday : Bool
  status : MeanStatus
  validBlocks : Nat
  exceeded : Bool
  episodeOpen : Bool
  deriving DecidableEq, Repr

/-- A day accumulator (R117). -/
structure DayAcc where
  sum : Nat
  valid : Nat
  invalid : Nat
  idle : Nat
  start : Nat
  deriving DecidableEq, Repr

/-- A last-day record (R131). -/
structure DayRecord where
  status : MeanStatus
  exceeded : Bool
  valid : Nat
  invalid : Nat
  idle : Nat
  start : Nat
  deriving DecidableEq, Repr

/-- The items of a ledger channel (R117); the block record holds the entries of index 0, 1 and 2. -/
structure LedgerChannel where
  sum : Nat
  count : Nat
  block0 : BlockEntry
  block1 : BlockEntry
  block2 : BlockEntry
  history : List HistoryEntry
  day : DayAcc
  lastDay : Option DayRecord
  deriving DecidableEq, Repr

/-- The ledger items of a line (R117). -/
structure LedgerLine where
  store : Option StoredSample
  nOp : Nat
  channels : PerPollutant LedgerChannel
  deriving DecidableEq, Repr

/-! ### Compliance monitor (chapter 8) -/

/-- The last period evaluations (R137). -/
inductive Evaluation where
  | none | opened | lengthened | compliant | closedNow | quiet
  deriving DecidableEq, Repr

/-- A compliance record (R137). -/
structure ComplianceRecord where
  throttle : Nat
  episodeOpen : Bool
  length : Nat
  compliant : Nat
  budgetUsed : Nat
  budgetLoaded : Bool
  lockout : Bool
  evaluation : Evaluation
  deriving DecidableEq, Repr

/-! ### Dosing computation (chapter 9) -/

/-- The modes of a dosing channel (R153). -/
inductive DosingMode where
  | auto | override
  deriving DecidableEq, Repr

/-- The trim outcomes (R153). -/
inductive TrimOutcome where
  | none | updated | heldNoValid | heldOverride
  deriving DecidableEq, Repr

/-- The limit state, a set of marks (R153). -/
structure LimitMarks where
  rateAtMax : Bool
  trimAtLo : Bool
  trimAtHi : Bool
  periodAtPmin : Bool
  periodAtPmax : Bool
  deriving DecidableEq, Repr

/-- A dosing channel record (R153). -/
structure DosingRecord where
  mode : DosingMode
  overrideRate : Nat
  trim : Int
  ff : Nat
  rate : Nat
  /-- the period handed, in fine units -/
  period : Option Nat
  paced : Nat
  limits : LimitMarks
  lastError : Option Int
  trimOutcome : TrimOutcome
  lastDose : Nat
  deriving DecidableEq, Repr

/-! ### Station flag unit (chapter 11) -/

/-- The notify modes (R180). -/
inductive NotifyMode where
  | level | pulse
  deriving DecidableEq, Repr

/-- The polarities of a notify line (R180). -/
inductive Polarity where
  | activeLow | activeHigh
  deriving DecidableEq, Repr

/-- What the flag unit holds for a station (11.0). -/
structure FlagUnit where
  flags : FlagWord
  mask : FlagWord
  mode : NotifyMode
  polarity : Polarity
  /-- the time left of the notify pulse in microseconds, 0 when idle (R182) -/
  pulseLeft : Nat
  /-- the model's own: the conditions that hold now, at their flag positions (R176) -/
  holds : FlagWord
  deriving DecidableEq, Repr

/-! ### Pins -/

/-- The levels at the input pins that stand between commands (00_scope 6): RESET held low, and which of the
stroke-complete and steam inputs are high. -/
structure Pins where
  resetLow : Bool
  strokeComplete : PerLine (PerStroke Bool)
  steam : PerLine Bool
  deriving DecidableEq, Repr

/-! ### The state -/

/-- The state of the part. -/
structure State where
  /-- the commands that are waiting, first in, first out -/
  pending : List Instr
  bus : BusPort
  config : ConfigStore
  time : TimeBase
  registry : Registry
  alloc : Allocator
  sched : Scheduler
  feed : PerLine FeedRecord
  gens : PerLine (PerGen GenRecord)
  counters : PerLine SteamCounter
  ledger : PerLine LedgerLine
  monitor : PerLine ComplianceRecord
  dosing : PerLine (PerChannel DosingRecord)
  flags : PerStation FlagUnit
  pins : Pins
  /-- the model's own (log 2): orders of hand-offs set beforehand, taken before `Config.tieOrder` -/
  ties : List Bool
  /-- the model's own (log 2): how many orders `Config.tieOrder` has given -/
  tieCount : Nat
  /-- the model's own (log 3): how many free bytes have been used -/
  freeCount : Nat
  deriving DecidableEq, Repr

/-- Why the machine stops with a fault: never. The spec gives the part no fault that stops it: a refused request
changes nothing and is answered or discarded (00_scope 4.2, R170), and stroke faults and jams are effects. -/
inductive Fault where
  deriving DecidableEq, Repr

/-- Why a command is refused. -/
inductive Refusal where
  /-- raised by `exec` alone, for a command without a meaning; no arm does. Safe: nothing is claimed of it. -/
  | notModelled (mnemonic : String)
  deriving DecidableEq, Repr

/-! ### Reset values -/

/-- The same value for every line. -/
def PerLine.all {α : Type} (x : α) : PerLine α := ⟨x, x, x⟩

/-- The PLANT defaults (R26, R48, R74, R136). -/
def PlantConfig.reset : PlantConfig where
  written := false
  pLo := 3800
  pHi := 4200
  surgeRate := 50
  connectTimeout := 180
  bypassMax := 400
  turbineMax := 1500
  auxMax := 200
  shedOrder := [.a, .b, .c]
  deadband := 10
  lowWater := 4
  oRef := 1100
  charP := [0, 100, 150, 200, 250, 300, 350, 450]
  charS := [300, 480, 660, 850, 1040, 1230, 1420, 1800]

/-- The LINE defaults (R26, R92, R152). -/
def LineConfig.reset : LineConfig where
  written := false
  sMin := 200
  sNom := 350
  sMax := 400
  steamPulseQ := 10
  steamPulseEdge := .rising
  devTol := 20
  devMinutes := 5
  enthalpyRise := 2900
  efficiency := 820
  lhvInit := 10000
  strokeCharge := 400
  feedMin := 2000
  feedMax := 20000
  startupFeedMax := 8000
  lhvWeight := 4
  lhvLag := 1
  throttleFloor := 700
  stepDown := 50
  stepUp := 20
  warn := 900
  episodeThrottle := 800
  episodeLimit := 6
  allowance := 100

/-- The GENERATOR defaults of a stroke generator (R116). -/
def GenConfig.resetStroke : GenConfig where
  written := false
  periodMin := 3000
  periodMax := 30000
  strokeMin := 100
  strokeMax := 2500
  completeEdge := .rising
  zoneRatio := 100
  pulseWidth := 20

/-- The GENERATOR defaults of a pulse generator (R116). -/
def GenConfig.resetPulse : GenConfig where
  written := false
  periodMin := 100
  periodMax := 60000
  strokeMin := 100
  strokeMax := 2500
  completeEdge := .rising
  zoneRatio := 100
  pulseWidth := 20

/-- The GENERATOR defaults of a line. -/
def GenConfig.resetLine : PerGen GenConfig :=
  ⟨.resetStroke, .resetStroke, .resetStroke, .resetStroke, .resetPulse, .resetPulse⟩

/-- The LEDGER defaults of a line (R135). -/
def LedgerConfig.resetLine : PerPollutant LedgerConfig where
  co := ⟨false, 1000, 500, 5, true⟩
  nox := ⟨false, 4000, 2000, 5, false⟩
  so2 := ⟨false, 2000, 500, 5, false⟩
  hcl := ⟨false, 600, 100, 5, false⟩
  dust := ⟨false, 300, 100, 5, false⟩
  toc := ⟨false, 200, 100, 5, true⟩

/-- The DOSING defaults of a channel with the given k_ff (R163). -/
def DosingConfig.reset (kFf : Nat) : DosingConfig where
  written := false
  kFf := kFf
  pulseG := 25
  rateMax := 100000
  setpoint := 1500
  setpointSo2 := 400
  setpointHcl := 60
  kt := 250
  trimLo := -500
  trimHi := 1000

/-- The store after pin reset: every parameter at its default, every written mark clear (R175). -/
def ConfigStore.reset : ConfigStore where
  plant := .reset
  line := .all .reset
  gen := .all GenConfig.resetLine
  ledger := .all LedgerConfig.resetLine
  dosing := .all ⟨.reset 2000, .reset 5000⟩

/-- The bus port after pin reset (R175); the address is read at the release (log 5). -/
def BusPort.reset : BusPort where
  receiver := .idle
  idleCount := 0
  inProgress := []
  answer := none
  sending := false
  address := 8#8
  snapshots := ⟨.all none, none, none, none⟩

/-- The time base after pin reset (R49, R50). -/
def TimeBase.reset : TimeBase where
  tick := 0#32
  clock := ⟨0, 0, 0, false, 0⟩
  slotDue := false
  minuteDue := false

/-- A line record after pin reset (R2); the line straps are read at the release (log 5). -/
def LineRecord.reset : LineRecord where
  fitted := true
  state := .offline
  reasons := ⟨false, false, false⟩
  returnTo := none
  measured := 0
  deviation := 0
  startupRequest := 0

/-- The line registry after pin reset (R2, R21). -/
def Registry.reset : Registry where
  lines := .all .reset
  queue := []
  slot := none
  header := ⟨0, 0, 0#32, true⟩

/-- The allocator after pin reset (R28). -/
def Allocator.reset : Allocator where
  record := ⟨.all 0, 0, 0, 0, .steamLed, false, 0#16⟩
  shed := .all false
  flagged := .all 0
  flaggedTarget := 0
  aux := 0

/-- The dispatch scheduler after pin reset (R58). -/
def Scheduler.reset : Scheduler where
  queue := []
  active := none
  ramped := 0
  handed := 0
  turbine := ⟨.stopped, 0, 0#32, .reporting⟩
  ceiling := 0
  mode := .steamLed

/-- A feed record after pin reset (R75). -/
def FeedRecord.reset : FeedRecord where
  m1 := 0
  m4 := 0
  capped := false
  throttled := false
  raised := false
  held := false
  reference := none
  periods := ⟨none, none, none, none⟩
  clamps := ⟨.within, .within, .within, .within⟩
  paced := 0
  lhv := 10000
  strokes := 0
  mass := 0
  massPrev := 0
  massPrev2 := 0
  blockSteam := 0
  blockValue := none
  outcome := .none

/-- A generator record after pin reset (R94). -/
def GenRecord.reset : GenRecord where
  run := .stopped
  source := .manual
  configured := false
  current := none
  buffer := .empty
  countdown := none
  trimAcc := 0
  phase := .rest
  pending := false
  activeSince := 0#32
  limitMin := 100
  limitMax := 2500
  consecutive := 0
  completed := 0#32
  aborted := 0#16
  overrun := 0#16
  early := 0#16
  late := 0#16
  stray := 0#16
  lastDuration := none
  lastFault := none
  blockPulses := 0

/-- A ledger channel after pin reset (R117). -/
def LedgerChannel.reset : LedgerChannel where
  sum := 0
  count := 0
  block0 := ⟨.opened, 0, 0⟩
  block1 := ⟨.opened, 0, 0⟩
  block2 := ⟨.opened, 0, 0⟩
  history := []
  day := ⟨0, 0, 0, 0, 0⟩
  lastDay := none

/-- The ledger items of a line after pin reset (R117). -/
def LedgerLine.reset : LedgerLine where
  store := none
  nOp := 0
  channels := ⟨.reset, .reset, .reset, .reset, .reset, .reset⟩

/-- A compliance record after pin reset (R137). -/
def ComplianceRecord.reset : ComplianceRecord where
  throttle := 1000
  episodeOpen := false
  length := 0
  compliant := 0
  budgetUsed := 0
  budgetLoaded := false
  lockout := false
  evaluation := .none

/-- A dosing channel record after pin reset (R153). -/
def DosingRecord.reset : DosingRecord where
  mode := .auto
  overrideRate := 0
  trim := 0
  ff := 0
  rate := 0
  period := none
  paced := 0
  limits := ⟨false, false, false, false, false⟩
  lastError := none
  trimOutcome := .none
  lastDose := 0

/-- A station's flags at pin reset: none set (R177). The mask, mode, polarity and pulse state that R177 gives at the
release stand from pin reset on (DESIGN CHOICE, log 5). -/
def FlagUnit.reset : FlagUnit where
  flags := 0#16
  mask := 0xFFFE#16
  mode := .level
  polarity := .activeLow
  pulseLeft := 0
  holds := 0#16

/-- The part right after pin reset, RESET held low: every record at its reset value. -/
def State.reset : State where
  pending := []
  bus := .reset
  config := .reset
  time := .reset
  registry := .reset
  alloc := .reset
  sched := .reset
  feed := .all .reset
  gens := .all ⟨.reset, .reset, .reset, .reset, .reset, .reset⟩
  counters := .all ⟨false, .rising, 0, 0, 0#32⟩
  ledger := .all .reset
  monitor := .all .reset
  dosing := .all ⟨.reset, .reset⟩
  flags := ⟨.all .reset, .reset, .reset, .reset⟩
  pins := ⟨true, .all ⟨false, false, false, false⟩, .all false⟩
  ties := []
  tieCount := 0
  freeCount := 0

end Sys2Proof.Machine
end

