-- ==== Sys2Proof/Machine/Ops.lean ====
section
/-! DEFINITION. Named reads and writes of the state, and the choices the spec leaves open. -/

namespace Sys2Proof.Machine

/-! ### One of each line, generator, channel, pollutant, station -/

/-- The entry of a line. -/
def PerLine.get {α : Type} (t : PerLine α) : Line → α
  | .a => t.a
  | .b => t.b
  | .c => t.c

/-- The table with a line's entry replaced. -/
def PerLine.set {α : Type} (t : PerLine α) (l : Line) (x : α) : PerLine α :=
  match l with
  | .a => { t with a := x }
  | .b => { t with b := x }
  | .c => { t with c := x }

/-- The entry of a generator. -/
def PerGen.get {α : Type} (t : PerGen α) : Gen → α
  | .feed => t.feed
  | .z1 => t.z1
  | .z2 => t.z2
  | .z3 => t.z3
  | .nox => t.nox
  | .acid => t.acid

/-- The table with a generator's entry replaced. -/
def PerGen.set {α : Type} (t : PerGen α) (g : Gen) (x : α) : PerGen α :=
  match g with
  | .feed => { t with feed := x }
  | .z1 => { t with z1 := x }
  | .z2 => { t with z2 := x }
  | .z3 => { t with z3 := x }
  | .nox => { t with nox := x }
  | .acid => { t with acid := x }

/-- The entry of a stroke generator. -/
def PerStroke.get {α : Type} (t : PerStroke α) : StrokeGen → α
  | .feed => t.feed
  | .z1 => t.z1
  | .z2 => t.z2
  | .z3 => t.z3

/-- The table with a stroke generator's entry replaced. -/
def PerStroke.set {α : Type} (t : PerStroke α) (g : StrokeGen) (x : α) : PerStroke α :=
  match g with
  | .feed => { t with feed := x }
  | .z1 => { t with z1 := x }
  | .z2 => { t with z2 := x }
  | .z3 => { t with z3 := x }

/-- The entry of a dosing channel. -/
def PerChannel.get {α : Type} (t : PerChannel α) : Channel → α
  | .nox => t.nox
  | .acid => t.acid

/-- The table with a dosing channel's entry replaced. -/
def PerChannel.set {α : Type} (t : PerChannel α) (c : Channel) (x : α) : PerChannel α :=
  match c with
  | .nox => { t with nox := x }
  | .acid => { t with acid := x }

/-- The entry of a pollutant. -/
def PerPollutant.get {α : Type} (t : PerPollutant α) : Pollutant → α
  | .co => t.co
  | .nox => t.nox
  | .so2 => t.so2
  | .hcl => t.hcl
  | .dust => t.dust
  | .toc => t.toc

/-- The table with a pollutant's entry replaced. -/
def PerPollutant.set {α : Type} (t : PerPollutant α) (p : Pollutant) (x : α) : PerPollutant α :=
  match p with
  | .co => { t with co := x }
  | .nox => { t with nox := x }
  | .so2 => { t with so2 := x }
  | .hcl => { t with hcl := x }
  | .dust => { t with dust := x }
  | .toc => { t with toc := x }

/-- The entry made for each pollutant. -/
def PerPollutant.make {α : Type} (f : Pollutant → α) : PerPollutant α :=
  ⟨f .co, f .nox, f .so2, f .hcl, f .dust, f .toc⟩

/-- The entry of a station. -/
def PerStation.get {α : Type} (t : PerStation α) : Station → α
  | .lineCtl l => t.lineCtl.get l
  | .turbine => t.turbine
  | .cleaning => t.cleaning
  | .supervisory => t.supervisory

/-- The table with a station's entry replaced. -/
def PerStation.set {α : Type} (t : PerStation α) (st : Station) (x : α) : PerStation α :=
  match st with
  | .lineCtl l => { t with lineCtl := t.lineCtl.set l x }
  | .turbine => { t with turbine := x }
  | .cleaning => { t with cleaning := x }
  | .supervisory => { t with supervisory := x }

/-- The lines in letter order. -/
def allLines : List Line := [.a, .b, .c]

/-- The generators of a line by number (R93). -/
def allGens : List Gen := [.feed, .z1, .z2, .z3, .nox, .acid]

/-- The pollutants in the order of their codes (12.4). -/
def allPollutants : List Pollutant := [.co, .nox, .so2, .hcl, .dust, .toc]

/-- The stations 1 to 6. -/
def allStations : List Station :=
  [.lineCtl .a, .lineCtl .b, .lineCtl .c, .turbine, .cleaning, .supervisory]

/-- The generator a stroke generator is. -/
def strokeGen : StrokeGen → Gen
  | .feed => .feed
  | .z1 => .z1
  | .z2 => .z2
  | .z3 => .z3

/-- The dosing generator of a channel (chapter 9). -/
def channelGen : Channel → Gen
  | .nox => .nox
  | .acid => .acid

/-- The stroke generator a generator is, if it is one (R93). -/
def asStroke : Gen → Option StrokeGen
  | .feed => some .feed
  | .z1 => some .z1
  | .z2 => some .z2
  | .z3 => some .z3
  | .nox => none
  | .acid => none

/-- An operation taken for each line of a list in turn. -/
def forLines (ls : List Line) (f : Line → State → State) (s : State) : State :=
  ls.foldl (fun s l => f l s) s

/-- clamp(x, lo, hi) of 00_scope 3.3. -/
def clampNat (x lo hi : Nat) : Nat := max lo (min x hi)

/-- clamp(x, lo, hi) of 00_scope 3.3, for signed values. -/
def clampInt (x lo hi : Int) : Int := max lo (min x hi)

/-- The size of a difference, taken without sign. -/
def distance (x y : Nat) : Nat := (x - y) + (y - x)

/-! ### Reads -/

namespace State

/-- The line record of a line. -/
def line (s : State) (l : Line) : LineRecord := s.registry.lines.get l

/-- The state of a line. -/
def lineState (s : State) (l : Line) : LineState := (s.line l).state

/-- Whether a line is fitted (R1). -/
def fitted (s : State) (l : Line) : Bool := (s.line l).fitted

/-- The fitted lines in letter order. -/
def fittedLines (s : State) : List Line := allLines.filter s.fitted

/-- A generator record. -/
def gen (s : State) (l : Line) (g : Gen) : GenRecord := (s.gens.get l).get g

/-- The GENERATOR parameters in force of a generator. -/
def genConfig (s : State) (l : Line) (g : Gen) : GenConfig := (s.config.gen.get l).get g

/-- The LINE parameters in force of a line. -/
def lineConfig (s : State) (l : Line) : LineConfig := s.config.line.get l

/-- The LEDGER parameters in force of a channel. -/
def ledgerConfig (s : State) (l : Line) (p : Pollutant) : LedgerConfig := (s.config.ledger.get l).get p

/-- The DOSING parameters in force of a channel. -/
def dosingConfig (s : State) (l : Line) (c : Channel) : DosingConfig := (s.config.dosing.get l).get c

/-- The dosing channel record. -/
def dose (s : State) (l : Line) (c : Channel) : DosingRecord := (s.dosing.get l).get c

/-- The tick count (R49). -/
def now (s : State) : Tick := s.time.tick

/-- The ticks elapsed since a stamp, modulo 2^32 (R49). -/
def elapsed (s : State) (stamp : Tick) : Nat := (s.time.tick - stamp).toNat

/-! ### Writes -/

/-- Replace a line record. -/
def setLine (s : State) (l : Line) (r : LineRecord) : State :=
  { s with registry := { s.registry with lines := s.registry.lines.set l r } }

/-- Replace a line's six generator records. -/
def setGens (s : State) (l : Line) (r : PerGen GenRecord) : State :=
  { s with gens := s.gens.set l r }

/-- Replace a generator record. -/
def setGen (s : State) (l : Line) (g : Gen) (r : GenRecord) : State :=
  s.setGens l ((s.gens.get l).set g r)

/-- Replace a feed record. -/
def setFeed (s : State) (l : Line) (r : FeedRecord) : State :=
  { s with feed := s.feed.set l r }

/-- Replace a dosing channel record. -/
def setDose (s : State) (l : Line) (c : Channel) (r : DosingRecord) : State :=
  { s with dosing := s.dosing.set l ((s.dosing.get l).set c r) }

/-- Replace a compliance record. -/
def setMonitor (s : State) (l : Line) (r : ComplianceRecord) : State :=
  { s with monitor := s.monitor.set l r }

/-- Replace a line's ledger items. -/
def setLedger (s : State) (l : Line) (r : LedgerLine) : State :=
  { s with ledger := s.ledger.set l r }

/-- Replace a steam pulse counter. -/
def setCounter (s : State) (l : Line) (r : SteamCounter) : State :=
  { s with counters := s.counters.set l r }

/-- Replace a station's flag record. -/
def setFlagUnit (s : State) (st : Station) (u : FlagUnit) : State :=
  { s with flags := s.flags.set st u }

/-- Replace the clock. -/
def setClock (s : State) (c : Clock) : State :=
  { s with time := { s.time with clock := c } }

/-- Replace the allocation record. -/
def setAlloc (s : State) (r : AllocRecord) : State :=
  { s with alloc := { s.alloc with record := r } }

/-! ### What the spec leaves open -/

/-- The next order choice (log 2): one set beforehand, else one of `Config.tieOrder`. -/
def nextTie (s : State) : Bool × State :=
  match s.ties with
  | b :: rest => (b, { s with ties := rest })
  | [] => (Config.tieOrder s.tieCount, { s with tieCount := s.tieCount + 1 })

/-- `n` free bytes (log 3). -/
def freeBytes (s : State) (n : Nat) : List Byte :=
  (List.range n).map (fun i => Config.freeByte (s.freeCount + i))

/-- The state after `n` free bytes are used (log 3). -/
def useFreeBytes (s : State) (n : Nat) : State :=
  { s with freeCount := s.freeCount + n }

end State

/-- Put an item somewhere into a list, the choices deciding where (log 2). -/
def insertTie {α : Type} (x : α) : List α → State → List α × State
  | [], s => ([x], s)
  | y :: ys, s =>
    if s.nextTie.1 then (x :: y :: ys, s.nextTie.2)
    else (y :: (insertTie x ys s.nextTie.2).1, (insertTie x ys s.nextTie.2).2)

/-- A list in an order the spec leaves open: every order can come out, and choices that are all `true` keep the
order given (log 2). -/
def shuffle {α : Type} : List α → State → List α × State
  | [], s => ([], s)
  | x :: xs, s => insertTie x (shuffle xs s).1 (shuffle xs s).2

/-- Take an operation for each item of a list, in an order the spec leaves open. -/
def forEachInAnyOrder {α : Type} (xs : List α) (f : α → State → State) (s : State) : State :=
  (shuffle xs s).1.foldl (fun s x => f x s) (shuffle xs s).2

end Sys2Proof.Machine
end

