-- ==== Sys2Proof/Machine/Flags.lean ====
section
/-! DEFINITION. The station flag unit: the catalogue (11.4, 12.6), setting flags, conditions, notify lines. -/

namespace Sys2Proof.Machine

/-- The flags of the catalogue (11.4), each with the station it belongs to. -/
inductive Flag where
  | restarted (st : Station)
  | stateChanged (l : Line)
  | clearToConnect (l : Line)
  | assignmentChanged (l : Line)
  | strokeFault (l : Line)
  | overrun (l : Line)
  | jam (l : Line)
  | throttled (l : Line)
  | lockout (l : Line)
  | steamDeviation (l : Line)
  | targetChanged
  | bypassActive
  | shortfall
  | headerStaleTurbine
  | sampleMissing
  | episodeOpen
  | dosingLimit
  | blockTaken
  | scheduleLow
  | episodeOpened
  | forcedBurnout
  | dayClosed
  | dayExceeded
  | shed
  | headerStaleSupervisory
  | turbineSilent
  | clockInvalid
  | configIncomplete
  | busFault
  deriving DecidableEq, Repr

/-- The station whose set holds a flag (11.4). -/
def Flag.station : Flag → Station
  | .restarted st => st
  | .stateChanged l => .lineCtl l
  | .clearToConnect l => .lineCtl l
  | .assignmentChanged l => .lineCtl l
  | .strokeFault l => .lineCtl l
  | .overrun l => .lineCtl l
  | .jam l => .lineCtl l
  | .throttled l => .lineCtl l
  | .lockout l => .lineCtl l
  | .steamDeviation l => .lineCtl l
  | .targetChanged => .turbine
  | .bypassActive => .turbine
  | .shortfall => .turbine
  | .headerStaleTurbine => .turbine
  | .sampleMissing => .cleaning
  | .episodeOpen => .cleaning
  | .dosingLimit => .cleaning
  | .blockTaken => .supervisory
  | .scheduleLow => .supervisory
  | .episodeOpened => .supervisory
  | .forcedBurnout => .supervisory
  | .dayClosed => .supervisory
  | .dayExceeded => .supervisory
  | .shed => .supervisory
  | .headerStaleSupervisory => .supervisory
  | .turbineSilent => .supervisory
  | .clockInvalid => .supervisory
  | .configIncomplete => .supervisory
  | .busFault => .supervisory

/-- The position of a flag in its station's set and mask (12.6). -/
def Flag.pos : Flag → Nat
  | .restarted _ => 0
  | .stateChanged _ => 1
  | .clearToConnect _ => 2
  | .assignmentChanged _ => 3
  | .strokeFault _ => 4
  | .overrun _ => 5
  | .jam _ => 6
  | .throttled _ => 7
  | .lockout _ => 8
  | .steamDeviation _ => 9
  | .targetChanged => 1
  | .bypassActive => 2
  | .shortfall => 3
  | .headerStaleTurbine => 4
  | .sampleMissing => 1
  | .episodeOpen => 2
  | .dosingLimit => 3
  | .blockTaken => 1
  | .scheduleLow => 2
  | .episodeOpened => 3
  | .forcedBurnout => 4
  | .dayClosed => 5
  | .dayExceeded => 6
  | .shed => 7
  | .headerStaleSupervisory => 8
  | .turbineSilent => 9
  | .clockInvalid => 10
  | .configIncomplete => 11
  | .busFault => 12

/-- The positions a station's catalogue uses (12.6). -/
def catalogue : Station → FlagWord
  | .lineCtl _ => 0x03FF#16
  | .turbine => 0x001F#16
  | .cleaning => 0x000F#16
  | .supervisory => 0x1FFF#16

/-- The word with one position marked. -/
def flagBit (n : Nat) : FlagWord := BitVec.twoPow 16 n

/-- The length of a notify pulse, 1 ms, in microseconds (R182). -/
def notifyPulse : Nat := 1000

/-- Set a flag: an unmasked flag that goes from clear to set starts or restarts the pulse of a PULSE line; a flag
already set changes nothing (R176, R182). -/
def FlagUnit.raise (u : FlagUnit) (n : Nat) : FlagUnit :=
  if u.flags.getLsbD n then u
  else
    { u with
      flags := u.flags ||| flagBit n
      pulseLeft := if u.mode = .pulse ∧ u.mask.getLsbD n = false then notifyPulse else u.pulseLeft }

/-- Set an event flag (R176). -/
def setFlag (f : Flag) (s : State) : State :=
  s.setFlagUnit f.station ((s.flags.get f.station).raise f.pos)

/-- Keep a condition flag in step with its condition: it is set when the condition arises, and stays set when the
condition has ended, until the station's next read (R176). -/
def setCondition (f : Flag) (holds : Bool) (s : State) : State :=
  if holds then
    s.setFlagUnit f.station
      { (s.flags.get f.station).raise f.pos with
        holds := (s.flags.get f.station).holds ||| flagBit f.pos }
  else
    s.setFlagUnit f.station
      { s.flags.get f.station with
        holds := (s.flags.get f.station).holds &&& ~~~ flagBit f.pos }

/-- The set after a read: events and ended conditions cleared (R178). -/
def FlagUnit.afterRead (u : FlagUnit) : FlagUnit :=
  { u with flags := u.flags &&& u.holds }

/-- The unit with a new mask; positions the catalogue does not use are masked (R179). -/
def FlagUnit.withMask (u : FlagUnit) (st : Station) (mask : FlagWord) : FlagUnit :=
  { u with mask := mask ||| ~~~ catalogue st }

/-- The unit with a new mode and polarity; a pulse in flight ends (R180). -/
def FlagUnit.withMode (u : FlagUnit) (m : NotifyMode) (p : Polarity) : FlagUnit :=
  { u with mode := m, polarity := p, pulseLeft := 0 }

/-- Whether a station's notify line is asserted (R181, R182). -/
def FlagUnit.asserted (u : FlagUnit) : Bool :=
  match u.mode with
  | .level => u.flags &&& ~~~ u.mask != 0#16
  | .pulse => u.pulseLeft != 0

/-- The level of a station's notify line, `true` for high: high while RESET is held low, else asserted is low
under ACTIVE_LOW and high under ACTIVE_HIGH (R177, R180). -/
def State.notifyHigh (s : State) (st : Station) : Bool :=
  if s.pins.resetLow then true
  else
    match (s.flags.get st).polarity with
    | .activeLow => !(s.flags.get st).asserted
    | .activeHigh => (s.flags.get st).asserted

/-- Whether a condition holds now (R176). -/
def State.conditionHolds (s : State) (f : Flag) : Bool :=
  (s.flags.get f.station).holds.getLsbD f.pos

/-- Whether a flag is set. -/
def State.flagSet (s : State) (f : Flag) : Bool :=
  (s.flags.get f.station).flags.getLsbD f.pos

end Sys2Proof.Machine
end

