-- ==== Sys2Proof/Machine/Operands.lean ====
section
/-! DEFINITION. Fields of a payload read and written (R183), and the codes of 12.3 and 12.4. -/

namespace Sys2Proof.Machine

/-! ### Reading fields -/

/-- Byte `i` of a payload. -/
def byteAt (p : List Byte) (i : Nat) : Nat := (p.getD i 0#8).toNat

/-- The unsigned two-byte field at `i`. -/
def word16 (p : List Byte) (i : Nat) : Nat := byteAt p i * 256 + byteAt p (i + 1)

/-- The unsigned three-byte field at `i`. -/
def word24 (p : List Byte) (i : Nat) : Nat := word16 p i * 256 + byteAt p (i + 2)

/-- A number of so many values read in two's complement. -/
def asSigned (size n : Nat) : Int := if 2 * n < size then n else (n : Int) - size

/-- The signed two-byte field at `i`. -/
def int16 (p : List Byte) (i : Nat) : Int := asSigned 65536 (word16 p i)

/-- The signed three-byte field at `i`. -/
def int24 (p : List Byte) (i : Nat) : Int := asSigned 16777216 (word24 p i)

/-- Bit `n` of a number. -/
def bitAt (x n : Nat) : Bool := x / 2 ^ n % 2 = 1

/-! ### Writing fields -/

/-- A number in so many bytes, most significant first. -/
def bytesOf : Nat → Nat → List Byte
  | 0, _ => []
  | n + 1, v => bytesOf n (v / 256) ++ [BitVec.ofNat 8 (v % 256)]

/-- One byte. -/
def u8 (v : Nat) : List Byte := bytesOf 1 v

/-- Two bytes. -/
def u16 (v : Nat) : List Byte := bytesOf 2 v

/-- Three bytes. -/
def u24 (v : Nat) : List Byte := bytesOf 3 v

/-- Four bytes. -/
def u32 (v : Nat) : List Byte := bytesOf 4 v

/-- A signed number in two bytes. -/
def s16 (v : Int) : List Byte := bytesOf 2 (v % 65536).toNat

/-- A signed number in three bytes. -/
def s24 (v : Int) : List Byte := bytesOf 3 (v % 16777216).toNat

/-- A mark as 0 or 1. -/
def markValue (b : Bool) : Nat := if b then 1 else 0

/-- Marks as the bits of a number, bit 0 first. -/
def bitsValue : List Bool → Nat
  | [] => 0
  | b :: bs => markValue b + 2 * bitsValue bs

/-- A period in three bytes, 0 for none (R183). -/
def periodField (q : Option Nat) : List Byte := u24 (q.getD 0)

/-- A two-byte field, FFFFh for absent (R183). -/
def orAbsent16 (v : Option Nat) : List Byte := u16 (v.getD 0xFFFF)

/-- A one-byte field, FFh for absent (R183). -/
def orAbsent8 (v : Option Nat) : List Byte := u8 (v.getD 0xFF)

/-- A three-byte signed field, 800000h for absent (R183). -/
def orAbsentS24 (v : Option Int) : List Byte := s24 (v.getD (-8388608))

/-! ### Codes -/

/-- The answer codes (12.3). -/
def Code.value : Code → Byte
  | .accepted => 0x00#8
  | .acceptedClamped => 0x01#8
  | .acceptedReplaced => 0x02#8
  | .unknownKind => 0x10#8
  | .badLength => 0x11#8
  | .notPermitted => 0x12#8
  | .wrongLine => 0x13#8
  | .badState => 0x14#8
  | .badValue => 0x15#8
  | .notConfigured => 0x16#8
  | .locked => 0x17#8
  | .queueFull => 0x18#8
  | .late => 0x19#8
  | .notFound => 0x1A#8
  | .busy => 0x1B#8
  | .clockInvalid => 0x1C#8

/-- The line a number names (00_scope 1.1). -/
def lineOfNumber : Nat → Option Line
  | 1 => some .a
  | 2 => some .b
  | 3 => some .c
  | _ => none

/-- The number of a line. -/
def lineNumber : Line → Nat
  | .a => 1
  | .b => 2
  | .c => 3

/-- The station a number names (00_scope 1.3). -/
def stationOfNumber : Nat → Option Station
  | 1 => some (.lineCtl .a)
  | 2 => some (.lineCtl .b)
  | 3 => some (.lineCtl .c)
  | 4 => some .turbine
  | 5 => some .cleaning
  | 6 => some .supervisory
  | _ => none

/-- The generator a number names in its line (R93). -/
def genOfNumber : Nat → Option Gen
  | 1 => some .feed
  | 2 => some .z1
  | 3 => some .z2
  | 4 => some .z3
  | 5 => some .nox
  | 6 => some .acid
  | _ => none

/-- The number of a generator. -/
def genNumber : Gen → Nat
  | .feed => 1
  | .z1 => 2
  | .z2 => 3
  | .z3 => 4
  | .nox => 5
  | .acid => 6

/-- The pollutant a code names (12.4). -/
def pollutantOfCode : Nat → Option Pollutant
  | 1 => some .co
  | 2 => some .nox
  | 3 => some .so2
  | 4 => some .hcl
  | 5 => some .dust
  | 6 => some .toc
  | _ => none

/-- The channel a code names (12.4). -/
def channelOfCode : Nat → Option Channel
  | 1 => some .nox
  | 2 => some .acid
  | _ => none

/-- The source a code names (12.4). -/
def sourceOfCode : Nat → Option Source
  | 0 => some .auto
  | 1 => some .manual
  | _ => none

/-- The turbine state a code names (12.4). -/
def turbineStateOfCode : Nat → Option TurbineState
  | 0 => some .stopped
  | 1 => some .runUp
  | 2 => some .onGrid
  | 3 => some .tripped
  | _ => none

/-- The notify mode a code names (12.4). -/
def notifyModeOfCode : Nat → Option NotifyMode
  | 0 => some .level
  | 1 => some .pulse
  | _ => none

/-- The polarity a code names (12.4). -/
def polarityOfCode : Nat → Option Polarity
  | 0 => some .activeLow
  | 1 => some .activeHigh
  | _ => none

/-- Codes of the line states (12.4). -/
def LineState.code : LineState → Nat
  | .offline => 0
  | .firingUp => 1
  | .connectPending => 2
  | .connecting => 3
  | .connected => 4
  | .hold => 5
  | .burnout => 6
  | .tripped => 7

/-- Codes of the turbine states (12.4). -/
def TurbineState.code : TurbineState → Nat
  | .stopped => 0
  | .runUp => 1
  | .onGrid => 2
  | .tripped => 3

/-- Codes of the silence states (12.4). -/
def Silence.code : Silence → Nat
  | .reporting => 0
  | .silent => 1
  | .lost => 2

/-- Codes of the modes (12.4). -/
def Mode.code : Mode → Nat
  | .steamLed => 0
  | .powerLed => 1

/-- Codes of the sources (12.4). -/
def Source.code : Source → Nat
  | .auto => 0
  | .manual => 1

/-- Codes of the edges (12.4). -/
def edgeCode : Edge → Nat
  | .rising => 0
  | .falling => 1

/-- Codes of the run states (12.4). -/
def RunState.code : RunState → Nat
  | .stopped => 0
  | .idle => 1
  | .running => 2
  | .fault => 3

/-- Codes of the output phases (12.4). -/
def Phase.code : Phase → Nat
  | .rest => 0
  | .active => 1

/-- Codes of the fault kinds (12.4). -/
def FaultKind.code : FaultKind → Nat
  | .early => 1
  | .late => 2
  | .stray => 3

/-- Codes of the clamp states (12.4). -/
def ClampState.code : ClampState → Nat
  | .within => 0
  | .atPmin => 1
  | .atPmax => 2

/-- Codes of the estimator outcomes (12.5). -/
def EstimatorOutcome.code : EstimatorOutcome → Nat
  | .none => 0
  | .updated => 1
  | .heldMass => 2
  | .heldSteam => 3

/-- Codes of the last period evaluations, in the order of R137 from NONE 0 (12.5). -/
def Evaluation.code : Evaluation → Nat
  | .none => 0
  | .opened => 1
  | .lengthened => 2
  | .compliant => 3
  | .closedNow => 4
  | .quiet => 5

/-- Codes of the dosing modes (12.4). -/
def DosingMode.code : DosingMode → Nat
  | .auto => 0
  | .override => 1

/-- Codes of the trim outcomes (12.4). -/
def TrimOutcome.code : TrimOutcome → Nat
  | .none => 0
  | .updated => 1
  | .heldNoValid => 2
  | .heldOverride => 3

/-- Codes of the notify modes (12.4). -/
def NotifyMode.code : NotifyMode → Nat
  | .level => 0
  | .pulse => 1

/-- Codes of the polarities (12.4). -/
def Polarity.code : Polarity → Nat
  | .activeLow => 0
  | .activeHigh => 1

/-- Codes of the return states: those of the line states (12.4). -/
def ReturnState.code : ReturnState → Nat
  | .firingUp => 1
  | .connected => 4

/-- Codes of a block's status (12.4). -/
def BlockStatus.code : BlockStatus → Nat
  | .idle => 0
  | .valid _ => 1
  | .invalid => 2
  | .opened => 3

/-- Codes of a period's or a day's status (12.4). -/
def MeanStatus.code : MeanStatus → Nat
  | .idle => 0
  | .valid _ => 1
  | .invalid => 2

/-- The limit state's bits (12.4). -/
def LimitMarks.code (m : LimitMarks) : Nat :=
  bitsValue [m.rateAtMax, m.trimAtLo, m.trimAtHi, m.periodAtPmin, m.periodAtPmax]

end Sys2Proof.Machine
end

