-- ==== Sys2Proof/Machine/Bus.lean ====
section
/-! DEFINITION. The bus port: which telegrams it takes, its checks and rights, and the answer buffer (chapter 10). -/

namespace Sys2Proof.Machine

/-! ### The receiver -/

/-- The recessive bit times a telegram leaves behind it: the stop bit and the recessive data bits sent last, the most
significant ones of its last byte (R164; DEDUCED, log 9). -/
def restCount (last : Byte) : Nat :=
  1 + ((List.range 8).takeWhile (fun i => last.getLsbD (7 - i))).length

/-- Whether a telegram that reaches the part is taken by the receiver: in IDLE with the bus rested, in RECEIVING, and in
ANSWERING, whose answer it displaces; not in RECOVERING (R164, R166, R169). -/
def BusPort.receives (b : BusPort) : Bool :=
  match b.receiver with
  | .idle => decide (b.idleCount = 20)
  | .receiving | .answering => true
  | .recovering => false

/-- The port in IDLE with nothing in progress and the answer buffer empty. -/
def BusPort.settled (b : BusPort) (idle : Nat) : BusPort :=
  { b with receiver := .idle, idleCount := idle, inProgress := [], answer := none, sending := false }

/-- Replace the bus port. -/
def State.setBus (s : State) (b : BusPort) : State := { s with bus := b }

/-- A telegram that the receiver passes over only moves the idle count (R164). -/
def passOver (idle : Nat) (s : State) : State :=
  s.setBus { s.bus with idleCount := idle }

/-- A telegram is discarded: BUS_FAULT, and the receiver returns to IDLE (R165). -/
def discardTelegram (idle : Nat) (s : State) : State :=
  if s.pins.resetLow then s
  else if s.bus.receives then setFlag .busFault (s.setBus (s.bus.settled idle))
  else passOver idle s

/-! ### Answers -/

/-- What the owner of a request gives back: the state after it, the answer code and the payload. -/
structure Reply where
  state : State
  code : Code
  payload : List Byte

/-- The answer goes to the answer buffer and the receiver enters ANSWERING (R169). -/
def Reply.answered (r : Reply) (kind : Byte) (f : Frame) : State :=
  r.state.setBus { r.state.bus with
    receiver := .answering
    answer := some ⟨f.src, kind, r.code, r.payload⟩ }

/-- The bytes of the answer in the buffer: source, destination, kind, code, length, payload, check byte (R169). -/
def Answer.bytes (a : Answer) (address : Byte) : List Byte :=
  telegramBytes a.kind ⟨address, a.dst, a.code.value, a.payload⟩

/-- A telegram that passed its check is not for the part, or its own echo, or a broadcast it does not take (R167). -/
def ignoredTelegram (address kind : Byte) (f : Frame) : Bool :=
  decide (f.src = address) ||
    (decide (f.dst ≠ address) &&
      !(decide (f.dst = 0#8) &&
        match kindOfCode kind with
        | some k => broadcastTaken k f.src
        | none => false))

/-- The receiver takes a telegram that passed its check (R165, R167): ignored, or decided by `reply` and answered when
it is unicast. A telegram whose payload is longer than 48 bytes is a length discard. -/
def takeTelegram (kind : Byte) (f : Frame) (reply : State → Reply) (s : State) : State :=
  let rest := restCount (checkByte (telegramBody kind f))
  if s.pins.resetLow then s
  else if 48 < f.payload.length then discardTelegram 0 s
  else if s.bus.receives = false then passOver rest s
  else
    let s' := s.setBus (s.bus.settled rest)
    if ignoredTelegram s.bus.address kind f then s'
    else if f.dst = s.bus.address then (reply s').answered kind f
    else (reply s').state

/-! ### The checks (R170, R171) -/

/-- The kinds a line controller alone may send, for its own line (R171). -/
def Kind.ofLine : Kind → Bool
  | .lineStart | .connectRequest | .connectCancel | .connectDone | .feedHold | .feedRelease | .lineStop
  | .burnoutDone | .lineTrip | .tripReset | .startupFeed | .sourceSelect | .manualStroke | .faultClear => true
  | .lineRead | .generatorRead | .headerState | .turbineState | .dispatchRead | .sample | .doseOverride
  | .doseAuto | .dosingRead | .ledgerRead | .clockSet | .scheduleAdd | .scheduleWithdraw | .scheduleRead
  | .auxSet | .configWrite | .configRead | .budgetLoad | .lockoutClear | .flagsRead | .maskWrite
  | .notifyMode => false

/-- The rights table (R171). -/
def granted (k : Kind) (st : Station) : Bool :=
  match k with
  | .lineStart | .connectRequest | .connectCancel | .connectDone | .feedHold | .feedRelease | .lineStop
  | .burnoutDone | .lineTrip | .tripReset | .startupFeed | .sourceSelect | .manualStroke | .faultClear =>
    match st with
    | .lineCtl _ => true
    | .turbine | .cleaning | .supervisory => false
  | .lineRead | .generatorRead =>
    match st with
    | .lineCtl _ | .supervisory => true
    | .turbine | .cleaning => false
  | .headerState | .turbineState => decide (st = .turbine)
  | .dispatchRead => decide (st = .turbine) || decide (st = .supervisory)
  | .sample | .doseOverride | .doseAuto => decide (st = .cleaning)
  | .dosingRead | .ledgerRead => decide (st = .cleaning) || decide (st = .supervisory)
  | .clockSet | .scheduleAdd | .scheduleWithdraw | .scheduleRead | .auxSet | .configWrite | .configRead
  | .budgetLoad | .lockoutClear => decide (st = .supervisory)
  | .flagsRead | .maskWrite | .notifyMode => true

/-- The length or lengths a kind allows (12.2). -/
def lengthAllowed (k : Kind) (n : Nat) : Bool :=
  match k with
  | .lineStart | .connectRequest | .connectCancel | .connectDone | .feedHold | .feedRelease | .lineStop
  | .burnoutDone | .lineTrip | .tripReset | .dispatchRead | .lockoutClear | .flagsRead => n == 0
  | .manualStroke | .faultClear | .lineRead | .doseAuto | .dosingRead => n == 1
  | .startupFeed | .sourceSelect | .scheduleRead | .auxSet | .maskWrite | .notifyMode => n == 2
  | .generatorRead | .turbineState | .ledgerRead | .clockSet | .scheduleWithdraw | .budgetLoad => n == 3
  | .headerState | .doseOverride | .configRead => n == 4
  | .scheduleAdd => n == 8
  | .sample => n == 15
  | .configWrite => decide (7 ≤ n) && decide (n ≤ 43) && n % 4 == 3

/-- The number that names a line in a request, for the kinds that name one (R170, 12.2). -/
def lineNamed (k : Kind) (f : Frame) : Option Nat :=
  match k with
  | .lineStart | .connectRequest | .connectCancel | .connectDone | .feedHold | .feedRelease | .lineStop
  | .burnoutDone | .lineTrip | .tripReset | .startupFeed | .sourceSelect | .manualStroke | .faultClear
  | .lineRead | .sample | .doseOverride | .doseAuto | .dosingRead | .ledgerRead | .budgetLoad
  | .lockoutClear => some f.selector.toNat
  | .generatorRead => some (byteAt f.payload 0)
  | .configWrite | .configRead =>
    if 2 ≤ byteAt f.payload 0 ∧ byteAt f.payload 0 ≤ 5 then some (byteAt f.payload 1) else none
  | .headerState | .turbineState | .dispatchRead | .clockSet | .scheduleAdd | .scheduleWithdraw
  | .scheduleRead | .auxSet | .flagsRead | .maskWrite | .notifyMode => none

/-- Check 5: the line named is 1..3 and fitted, and a line controller's own (R170, R171). -/
def lineAllowed (s : State) (st : Station) (n : Nat) : Bool :=
  match lineOfNumber n with
  | some l =>
    s.fitted l &&
      match st with
      | .lineCtl own => decide (l = own)
      | .turbine | .cleaning | .supervisory => true
  | none => false

/-- The line a request names; line A where it names none. -/
def lineOf (k : Kind) (f : Frame) : Line :=
  match lineNamed k f with
  | some n => (lineOfNumber n).getD .a
  | none => .a

/-- A refusal by the bus port: length 0, nothing changed (R170). -/
def portRefusal (c : Code) (s : State) : Reply := ⟨s, c, []⟩

/-- The checks of the bus port, the first that fails deciding; a request that passes goes to its owner with the sender and
the line named (R170). -/
def checked (k : Kind) (f : Frame) (owner : Station → Line → State → Reply) (s : State) : Reply :=
  match stationOfNumber f.src.toNat with
  | none => portRefusal .notPermitted s
  | some st =>
    if granted k st = false then portRefusal .notPermitted s
    else if lengthAllowed k f.payload.length = false then portRefusal .badLength s
    else
      match lineNamed k f with
      | some n => if lineAllowed s st n then owner st (lineOf k f) s else portRefusal .wrongLine s
      | none => owner st (lineOf k f) s

/-- A request of a known kind reaches the part (R165, R167, R170). -/
def request (k : Kind) (f : Frame) (owner : Station → Line → State → Reply) (s : State) : State :=
  takeTelegram k.code f (checked k f owner) s

end Sys2Proof.Machine
end

