-- ==== Sys2Proof/WellFormed.lean ====
section
/-! DEFINITION. Which commands are telegrams and bytes the bus can carry (R165, R169, 10.2). -/

namespace Sys2Proof

/-- A payload of 0..48 bytes (10.2). -/
def Frame.wellFormed (f : Frame) : Bool :=
  f.payload.length ≤ 48

/-- Whether the receiver has a reason to discard (R165). -/
def Discard.wellFormed : Discard → Bool
  | .badStop => true
  | .badLength len => decide (48 < len.toNat)
  | .badCheck body check =>
    decide (5 ≤ body.length) && decide (body.length ≤ 53) && checkByte body != check

/-- The check of a command's operands. -/
def Instr.wellFormed : Instr → Bool
  | .pinReset => true
  | .resetRelease _ _ => true
  | .lineStart f => f.wellFormed
  | .connectRequest f => f.wellFormed
  | .connectCancel f => f.wellFormed
  | .connectDone f => f.wellFormed
  | .feedHold f => f.wellFormed
  | .feedRelease f => f.wellFormed
  | .lineStop f => f.wellFormed
  | .burnoutDone f => f.wellFormed
  | .lineTrip f => f.wellFormed
  | .tripReset f => f.wellFormed
  | .startupFeed f => f.wellFormed
  | .sourceSelect f => f.wellFormed
  | .manualStroke f => f.wellFormed
  | .faultClear f => f.wellFormed
  | .lineRead f => f.wellFormed
  | .generatorRead f => f.wellFormed
  | .headerState f => f.wellFormed
  | .turbineState f => f.wellFormed
  | .dispatchRead f => f.wellFormed
  | .sample f => f.wellFormed
  | .doseOverride f => f.wellFormed
  | .doseAuto f => f.wellFormed
  | .dosingRead f => f.wellFormed
  | .ledgerRead f => f.wellFormed
  | .clockSet f => f.wellFormed
  | .scheduleAdd f => f.wellFormed
  | .scheduleWithdraw f => f.wellFormed
  | .scheduleRead f => f.wellFormed
  | .auxSet f => f.wellFormed
  | .configWrite f => f.wellFormed
  | .configRead f => f.wellFormed
  | .budgetLoad f => f.wellFormed
  | .lockoutClear f => f.wellFormed
  | .flagsRead f => f.wellFormed
  | .maskWrite f => f.wellFormed
  | .notifyMode f => f.wellFormed
  | .unknownKindRequest kind f =>
    f.wellFormed && ((kindOfCode kind).isNone || !knownSource f.src)
  | .telegramIgnored _ f => f.wellFormed
  | .telegramDiscard d => d.wellFormed
  | .busGapDiscard => true
  | .receiverReset => true
  | .recoveryEnd => true
  | .answerSend => true
  | .answerDone => true
  | .answerCollision readBack => decide (readBack.length ≤ 53)
  | .strokeCompleteEdge _ _ _ => true
  | .strokeMaxLapse _ _ => true
  | .pulseComplete _ _ => true
  | .countdownExpiry _ _ => true
  | .steamPulse _ _ => true
  | .headerStale => true
  | .turbineSilent => true
  | .turbineLost => true
  | .connectTimeout => true
  | .notifyPulseEnd _ => true
  | .slotClose => true
  | .minuteEvent => true
  | .holdEnd => true
  | .busRested => true
  | .noiseBurst => true

end Sys2Proof
end

