-- ==== Sys2Proof/Machine/BusEvents.lean ====
section
/-! DEFINITION. Events at the bus pair besides the requests of known kinds (R164 to R170). An event that has not come
about in the present state changes nothing (log 4). -/

namespace Sys2Proof.Machine

/-- The answer to a request that fails check 1 or check 2 (R170). -/
def unknownReply (f : Frame) (s : State) : Reply :=
  match stationOfNumber f.src.toNat with
  | none => portRefusal .notPermitted s
  | some _ => portRefusal .unknownKind s

/-- The telegram is one that fails check 1 or 2. -/
def isUnknown (kind : Byte) (f : Frame) : Bool :=
  (kindOfCode kind).isNone || !knownSource f.src

/-- UNKNOWN_KIND_REQUEST (R170). -/
def execUnknownKindRequest (kind : Byte) (f : Frame) (s : State) : Host.Outcome State Fault Refusal :=
  .next (if isUnknown kind f then takeTelegram kind f (unknownReply f) s else s)

/-- TELEGRAM_IGNORED (R167): nothing but the receiver moves. -/
def execTelegramIgnored (kind : Byte) (f : Frame) (s : State) : Host.Outcome State Fault Refusal :=
  .next (if ignoredTelegram s.bus.address kind f then takeTelegram kind f (portRefusal .unknownKind) s else s)

/-- The idle count a discarded telegram leaves: 0 after a bad stop bit or length, the recessive run of its check byte
after a wrong check (R164, R165). -/
def discardIdle : Discard → Nat
  | .badStop => 0
  | .badLength _ => 0
  | .badCheck _ check => restCount check

/-- TELEGRAM_DISCARD (R165). -/
def execTelegramDiscard (d : Discard) (s : State) : Host.Outcome State Fault Refusal :=
  .next (if d.wellFormed then discardTelegram (discardIdle d) s else s)

/-- BUS_GAP_DISCARD (R165): the idle count already stands at 20. -/
def execBusGapDiscard (s : State) : Host.Outcome State Fault Refusal :=
  .next (discardTelegram 20 s)

/-- The receiver reset (R166). -/
def receiverReset (s : State) : State :=
  match s.bus.receiver with
  | .recovering => passOver 0 s
  | .idle | .receiving | .answering =>
    setFlag .busFault (s.setBus { s.bus.settled 0 with receiver := .recovering })

/-- RECEIVER_RESET (R166). -/
def execReceiverReset (s : State) : Host.Outcome State Fault Refusal :=
  .next (if s.pins.resetLow then s else receiverReset s)

/-- RECOVERY_END (R166). -/
def execRecoveryEnd (s : State) : Host.Outcome State Fault Refusal :=
  .next (if s.bus.receiver = .recovering then s.setBus (s.bus.settled 20) else s)

/-- An answer waits for its window (R169). -/
def BusPort.waiting (b : BusPort) : Bool :=
  decide (b.receiver = .answering) && b.answer.isSome && !b.sending

/-- ANSWER_SEND (R169): the part starts sending; it drives the bus dominant, so the idle count is 0. -/
def execAnswerSend (s : State) : Host.Outcome State Fault Refusal :=
  .next (if s.bus.waiting then s.setBus { s.bus with sending := true, idleCount := 0 } else s)

/-- ANSWER_DONE (R169). -/
def execAnswerDone (s : State) : Host.Outcome State Fault Refusal :=
  .next (if s.bus.receiver = .answering ∧ s.bus.sending = true then s.setBus (s.bus.settled 0) else s)

/-- ANSWER_COLLISION (R169): the answer is dropped, and the receiver takes the other station's telegram; the bytes read
back since the start bit are its beginning. -/
def execAnswerCollision (readBack : List Byte) (s : State) : Host.Outcome State Fault Refusal :=
  .next
    (if s.bus.receiver = .answering then
      s.setBus { s.bus.settled 0 with
        receiver := .receiving
        inProgress := if s.bus.sending then readBack else [] }
    else s)

/-- BUS_RESTED (R164): the idle count reaches 20, unless the part itself drives the bus. -/
def execBusRested (s : State) : Host.Outcome State Fault Refusal :=
  .next (if s.pins.resetLow = true ∨ s.bus.sending = true then s else passOver 20 s)

/-- NOISE_BURST (R164, R166): a dominant level that begins nothing. -/
def execNoiseBurst (s : State) : Host.Outcome State Fault Refusal :=
  .next
    (if s.pins.resetLow then s
    else
      match s.bus.receiver with
      | .idle => if s.bus.idleCount < 20 then passOver 0 s else s
      | .recovering => passOver 0 s
      | .receiving | .answering => s)

end Sys2Proof.Machine
end

