-- ==== Sys2Proof/Machine/Generators.lean ====
section
/-! DEFINITION. The pacing generators: permission, countdown, handed periods, strokes and their ends (chapter 6).
Period values are in fine units; a period of Q stands for Q div 64 ticks with trim Q mod 64 (R100). -/

namespace Sys2Proof.Machine

/-! ### Line states -/

/-- The feeding states (1.2). -/
def LineState.feeding : LineState → Bool
  | .firingUp | .connectPending | .connecting | .connected => true
  | .offline | .hold | .burnout | .tripped => false

/-- The operating states: all but OFFLINE (1.2). -/
def LineState.operating : LineState → Bool
  | .offline => false
  | .firingUp | .connectPending | .connecting | .connected | .hold | .burnout | .tripped => true

/-- The states in which reagent is dosed (R154). -/
def LineState.doses : LineState → Bool
  | .offline | .tripped => false
  | .firingUp | .connectPending | .connecting | .connected | .hold | .burnout => true

/-- Whether a line state permits a generator to run (R95). -/
def LineState.permits (st : LineState) : Gen → Bool
  | .feed => st.feeding
  | .z1 | .z2 | .z3 | .nox | .acid => st.doses

/-! ### The record -/

namespace GenRecord

/-- RUNNING or IDLE: the generator has permission to run (R95). -/
def permitted (g : GenRecord) : Bool :=
  match g.run with
  | .running | .idle => true
  | .stopped | .fault => false

/-- A buffered period or none becomes the current one and the buffer is emptied (R97, R98, R99, R109). -/
def takeBuffer (g : GenRecord) : GenRecord :=
  match g.buffer with
  | .empty => g
  | .none => { g with current := none, buffer := .empty }
  | .period q => { g with current := some q, buffer := .empty }

/-- Start on gaining permission: resume a frozen countdown, preset from the current period, or IDLE (R96). -/
def start (g : GenRecord) : GenRecord :=
  match g.current with
  | none => { g with run := .idle, countdown := none }
  | some q =>
    match g.countdown with
    | some _ => { g with run := .running }
    | none => { g with run := .running, countdown := some (q / 64), trimAcc := 0 }

/-- Stop on losing permission; the countdown is frozen when `freeze` and a current period remains, else cleared
(R97). -/
def stop (g : GenRecord) (freeze : Bool) : GenRecord :=
  { g.takeBuffer with
    pending := false
    run := .stopped
    countdown := if freeze = true ∧ g.takeBuffer.current.isSome = true then g.countdown else none }

/-- Drop an ACTIVE output to REST and count the stroke or pulse aborted; a stroke's duration is captured (R98). -/
def abort (g : GenRecord) (stroke : Bool) (elapsed : Nat) : GenRecord :=
  match g.phase with
  | .rest => g
  | .active =>
    { g with
      phase := .rest
      aborted := g.aborted + 1
      lastDuration := if stroke then some elapsed else g.lastDuration }

/-- Entering TRIPPED (R98). -/
def enterTripped (g : GenRecord) (stroke : Bool) (elapsed : Nat) : GenRecord :=
  { (g.takeBuffer.abort stroke elapsed) with
    pending := false
    countdown := none
    run := if g.run = .fault then .fault else .stopped }

/-- Entering OFFLINE (R99). -/
def enterOffline (g : GenRecord) (stroke : Bool) (elapsed : Nat) : GenRecord :=
  { (g.takeBuffer.abort stroke elapsed) with
    pending := false
    countdown := none
    run := .stopped
    consecutive := 0 }

/-- A change of line state other than into TRIPPED or OFFLINE: permission is decided again (R95, R96, R97). -/
def onLineState (g : GenRecord) (k : Gen) (old new : LineState) : GenRecord :=
  let may := g.source = .auto ∧ g.run ≠ .fault ∧ new.permits k = true
  if g.permitted = true ∧ ¬ may then
    g.stop (decide (k = .feed ∧ new = .hold ∧ old.feeding = true))
  else if g.permitted = false ∧ may then g.start
  else if k = .feed ∧ new = .burnout then { g with countdown := none }
  else g

/-- A handed period, or none, by run state (R102). -/
def hand (g : GenRecord) (q : Option Nat) : GenRecord :=
  match g.run, q with
  | .running, some q =>
    match g.countdown with
    | some c =>
      if q / 64 < c then { g with countdown := some (q / 64), current := some q, buffer := .empty }
      else { g with buffer := .period q }
    | none => { g with buffer := .period q }
  | .running, none => { g with buffer := .none }
  | .idle, some q =>
    { g with run := .running, current := some q, countdown := some (q / 64), trimAcc := 0 }
  | .idle, none => g
  | .stopped, q => { g with current := q, buffer := .empty }
  | .fault, q => { g with current := q, buffer := .empty }

/-- A stroke or pulse starts: the output goes ACTIVE, active-since is stamped, and the supervision limits of a
stroke are copied (R104, R113). -/
def startStroke (g : GenRecord) (stroke : Bool) (now : Tick) (cfg : GenConfig) : GenRecord :=
  { g with
    phase := .active
    activeSince := now
    limitMin := if stroke then cfg.strokeMin else g.limitMin
    limitMax := if stroke then cfg.strokeMax else g.limitMax }

/-- A stroke waiting starts at once after the end of the one in flight (R107). -/
def startPending (g : GenRecord) (stroke : Bool) (now : Tick) (cfg : GenConfig) : GenRecord :=
  if g.pending then { g with pending := false }.startStroke stroke now cfg else g

/-- Reload the countdown from the current period with the trim accumulator (R100, stage 2). -/
def reload (g : GenRecord) (q : Nat) : GenRecord :=
  if 64 ≤ g.trimAcc + q % 64 then
    { g with trimAcc := g.trimAcc + q % 64 - 64, countdown := some (q / 64 + 1) }
  else
    { g with trimAcc := g.trimAcc + q % 64, countdown := some (q / 64) }

/-- The output at an expiry that reloads (R101). -/
def output (g : GenRecord) (stroke : Bool) (now : Tick) (cfg : GenConfig) : GenRecord :=
  match g.phase with
  | .rest => g.startStroke stroke now cfg
  | .active => if g.pending then { g with overrun := g.overrun + 1 } else { g with pending := true }

/-- An expiry drops its stroke: one is in flight and one waits (R101). -/
def overruns (g : GenRecord) : Bool :=
  match g.buffer with
  | .none => false
  | .empty | .period _ => g.takeBuffer.current.isSome && decide (g.phase = .active) && g.pending

/-- The countdown expires (R100): buffer, reload, output. -/
def expire (g : GenRecord) (stroke : Bool) (now : Tick) (cfg : GenConfig) : GenRecord :=
  match g.takeBuffer.current with
  | none => { g.takeBuffer with countdown := none, pending := false, run := .idle }
  | some q => (g.takeBuffer.reload q).output stroke now cfg

/-- The stroke completes after `d` ticks (R105); a pending one then starts. -/
def complete (g : GenRecord) (d : Nat) (now : Tick) (cfg : GenConfig) : GenRecord :=
  { g with
    phase := .rest
    lastDuration := some d
    completed := g.completed + 1
    consecutive := 0 }.startPending true now cfg

/-- The fault count of a kind rises by one. -/
def countFault (g : GenRecord) : FaultKind → GenRecord
  | .early => { g with early := g.early + 1 }
  | .late => { g with late := g.late + 1 }
  | .stray => { g with stray := g.stray + 1 }

/-- A last fault of a kind at the time the clock shows (R107). -/
def faultAt (k : FaultKind) (c : Clock) : LastFault :=
  ⟨k, c.minute, c.second, c.hundredth, c.valid⟩

/-- Enter FAULT (R109). -/
def enterFault (g : GenRecord) : GenRecord :=
  { g.takeBuffer with pending := false, countdown := none, run := .fault }

/-- The stroke ends with the fault EARLY or LATE after `d` ticks (R105, R106, R107): with the third consecutive
fault the generator enters FAULT, else a pending stroke starts. -/
def faultStroke (g : GenRecord) (k : FaultKind) (d : Nat) (c : Clock) (now : Tick) (cfg : GenConfig) :
    GenRecord :=
  let g' := { (g.countFault k) with
    phase := .rest
    lastDuration := some d
    lastFault := some (faultAt k c)
    consecutive := g.consecutive + 1 }
  if 3 ≤ g'.consecutive then g'.enterFault else g'.startPending true now cfg

/-- A stray edge is counted and recorded (R108). -/
def strayEdge (g : GenRecord) (c : Clock) : GenRecord :=
  { (g.countFault .stray) with lastFault := some (faultAt .stray c) }

/-- A pulse completes and is counted in the block (R113); a pending one starts, the rule of R101 and R107 being the
same for both kinds. -/
def completePulse (g : GenRecord) (now : Tick) (cfg : GenConfig) : GenRecord :=
  { g with
    phase := .rest
    completed := g.completed + 1
    blockPulses := min 65535 (g.blockPulses + 1) }.startPending false now cfg

/-- FAULT_CLEAR: FAULT is left for STOPPED, and permission is decided again (R110). -/
def clearFault (g : GenRecord) (k : Gen) (st : LineState) : GenRecord :=
  let g' := { g with run := .stopped, consecutive := 0, countdown := none }
  if g.source = .auto ∧ st.permits k = true then g'.start else g'

/-- SOURCE_SELECT (R111). -/
def selectSource (g : GenRecord) (k : Gen) (st : LineState) (src : Source) : GenRecord :=
  if g.source = src then g
  else
    match g.run, src with
    | .fault, _ => { g with source := src }
    | _, .manual => { (g.stop false) with source := .manual }
    | _, .auto =>
      if st.permits k = true then { g with source := .auto }.start else { g with source := .auto }

/-- New period limits clamp the current period in fine units (R116). -/
def clampCurrent (g : GenRecord) (pMin pMax : Nat) : GenRecord :=
  { g with current := g.current.map (fun q => clampNat q (pMin * 64) (pMax * 64)) }

end GenRecord

/-! ### The array -/

/-- The array takes a change of line state (R95 to R99). -/
def gensOnLineState (l : Line) (old new : LineState) (s : State) : State :=
  let one (k : Gen) (g : GenRecord) : GenRecord :=
    match new with
    | .tripped => g.enterTripped (asStroke k).isSome (s.elapsed g.activeSince)
    | .offline => g.enterOffline (asStroke k).isSome (s.elapsed g.activeSince)
    | _ => g.onLineState k old new
  let r := s.gens.get l
  s.setGens l
    ⟨one .feed r.feed, one .z1 r.z1, one .z2 r.z2, one .z3 r.z3, one .nox r.nox, one .acid r.acid⟩

/-- A period, or none, is handed to a generator (R102). -/
def handPeriod (l : Line) (k : Gen) (q : Option Nat) (s : State) : State :=
  s.setGen l k ((s.gen l k).hand q)

/-- Whether a generator of the line is in FAULT (R109). -/
def State.anyFault (s : State) (l : Line) : Bool :=
  allGens.any (fun k => decide ((s.gen l k).run = .fault))

/-- Whether the stroke-complete input of a generator is sensed (R93). -/
def State.senses (s : State) (l : Line) (g : StrokeGen) : Bool :=
  (s.gen l (strokeGen g)).configured

end Sys2Proof.Machine
end

