-- ==== Sys2Proof/Machine/Dosing.lean ====
section
/-! DEFINITION. The dosing computation: rate, period, limit state and the trim law (chapter 9). -/

namespace Sys2Proof.Machine

/-- Every channel's marks but the period marks: what DOSING_LIMIT looks at (R161). -/
def LimitMarks.limiting (m : LimitMarks) : Bool :=
  m.rateAtMax || m.trimAtLo || m.trimAtHi

/-- An empty limit state. -/
def LimitMarks.none : LimitMarks := ⟨false, false, false, false, false⟩

/-- Whether any channel of any fitted line has a limiting mark (R161). -/
def State.anyDosingLimit (s : State) : Bool :=
  s.fittedLines.any (fun l => (s.dose l .nox).limits.limiting || (s.dose l .acid).limits.limiting)

/-- The fed-forward rate FF = floor(M_ref * k_ff / 1000), an absent reference feed taken as 0 (R155). -/
def fedForward (reference : Option Nat) (kFf : Nat) : Nat :=
  reference.getD 0 * kFf / 1000

/-- The rate before its limit: the trimmed rate floor(FF * (1000 + trim) / 1000) in AUTO, the override rate in
OVERRIDE (R155, R156). -/
def rateBeforeLimit (r : DosingRecord) (ff : Nat) : Nat :=
  match r.mode with
  | .auto => ((ff : Int) * (1000 + r.trim) / 1000).toNat
  | .override => r.overrideRate

/-- The record a computation writes in a line state that doses (R155, R156, R158, R161). -/
def DosingRecord.computed (r : DosingRecord) (cfg : DosingConfig) (ff pMin pMax : Nat) : DosingRecord :=
  let before := rateBeforeLimit r ff
  let rate := min before cfg.rateMax
  let q0 := 23040000 * cfg.pulseG / rate
  let q := clampNat q0 (pMin * 64) (pMax * 64)
  { r with
    ff := ff
    rate := rate
    period := if rate = 0 then none else some q
    paced := if rate = 0 then 0 else 23040000 * cfg.pulseG / q
    limits :=
      { rateAtMax := decide (0 < before ∧ cfg.rateMax ≤ before)
        trimAtLo := decide (r.mode = .auto ∧ r.trim = cfg.trimLo)
        trimAtHi := decide (r.mode = .auto ∧ r.trim = cfg.trimHi)
        periodAtPmin := decide (rate ≠ 0 ∧ q0 < q)
        periodAtPmax := decide (rate ≠ 0 ∧ q < q0) } }

/-- The record a computation writes in OFFLINE and TRIPPED: rate 0, limit state empty, the period handed and the
paced rate kept (R154). -/
def DosingRecord.notDosing (r : DosingRecord) (ff : Nat) : DosingRecord :=
  { r with ff := ff, rate := 0, limits := LimitMarks.none }

/-- A computation of a channel's rate (R154), with DOSING_LIMIT decided again (R161). -/
def doseCompute (l : Line) (c : Channel) (s : State) : State :=
  let r := s.dose l c
  let cfg := s.dosingConfig l c
  let ff := fedForward (s.feed.get l).reference cfg.kFf
  let g := s.genConfig l (channelGen c)
  let s :=
    if (s.lineState l).doses then
      let r' := r.computed cfg ff g.periodMin g.periodMax
      handPeriod l (channelGen c) r'.period (s.setDose l c r')
    else s.setDose l c (r.notDosing ff)
  setCondition .dosingLimit s.anyDosingLimit s

/-- A computation for each of a line's two channels. -/
def doseComputeBoth (l : Line) (s : State) : State :=
  doseCompute l .acid (doseCompute l .nox s)

/-! ### The trim law (R159) -/

/-- The mean of a VALID block result. -/
def BlockStatus.mean? : BlockStatus → Option Nat
  | .valid m => some m
  | .opened | .idle | .invalid => none

/-- The error of a valid mean against a setpoint. -/
def errorAgainst (st : BlockStatus) (setpoint : Nat) : Option Int :=
  st.mean?.map (fun m => (m : Int) - setpoint)

/-- The error e of a channel: NOX against its setpoint; for ACID the larger over the blocks that are VALID (R159). -/
def blockError (c : Channel) (cfg : DosingConfig) (results : PerPollutant BlockStatus) : Option Int :=
  match c with
  | .nox => errorAgainst results.nox cfg.setpoint
  | .acid =>
    match errorAgainst results.so2 cfg.setpointSo2, errorAgainst results.hcl cfg.setpointHcl with
    | some x, some y => some (max x y)
    | some x, none => some x
    | none, some y => some y
    | none, none => none

/-- The record after the trim law at a block close (R159). -/
def DosingRecord.trimmed (r : DosingRecord) (cfg : DosingConfig) (e : Option Int) : DosingRecord :=
  match r.mode, e with
  | .override, _ => { r with trimOutcome := .heldOverride }
  | .auto, none => { r with trimOutcome := .heldNoValid }
  | .auto, some e =>
    { r with
      trim := clampInt (r.trim + (e * cfg.kt).tdiv 1000) cfg.trimLo cfg.trimHi
      lastError := some e
      trimOutcome := .updated }

/-- The trim law for one channel; a trim that changes makes a computation (R159). -/
def trimLaw (l : Line) (c : Channel) (results : PerPollutant BlockStatus) (s : State) : State :=
  let r := s.dose l c
  let cfg := s.dosingConfig l c
  let r' := r.trimmed cfg (blockError c cfg results)
  let s := s.setDose l c r'
  if r'.trim = r.trim then s else doseCompute l c s

/-- The dosing computation takes a block close for a line: the last block dose in every state (R160), the trim law
when the line is not OFFLINE (R159). -/
def dosingBlockClose (l : Line) (noxPulses acidPulses : Nat) (results : PerPollutant BlockStatus)
    (s : State) : State :=
  let s := s.setDose l .nox
    { s.dose l .nox with lastDose := noxPulses * (s.dosingConfig l .nox).pulseG }
  let s := s.setDose l .acid
    { s.dose l .acid with lastDose := acidPulses * (s.dosingConfig l .acid).pulseG }
  if (s.lineState l).operating then trimLaw l .acid results (trimLaw l .nox results s) else s

/-- Entering OFFLINE: both trims 0, the last errors absent, the last outcomes NONE, both rates 0 (R13, R154). -/
def dosingOffline (l : Line) (s : State) : State :=
  let s := s.setDose l .nox { s.dose l .nox with trim := 0, lastError := none, trimOutcome := .none }
  let s := s.setDose l .acid { s.dose l .acid with trim := 0, lastError := none, trimOutcome := .none }
  doseComputeBoth l s

end Sys2Proof.Machine
end

