-- ==== Sys2Proof/Machine/Ledger.lean ====
section
/-! DEFINITION. The emission ledger: samples, slot, block, period and day closes, the restart (chapter 7). -/

namespace Sys2Proof.Machine

/-! ### Samples -/

/-- The normalised concentration (R120), for an O2 reading below 2000. -/
def normalise (oRef o c : Nat) : Nat :=
  if o ≤ oRef then c else min 65535 ((c * (2100 - oRef) + (2100 - o) / 2) / (2100 - o))

/-- The sample as stored: wholly invalid when its O2 is marked invalid or reads 2000 or more, else each
concentration marked valid is normalised (R120). A concentration not marked valid is `none`. -/
def storedSample (oRef o : Nat) (o2Valid : Bool) (values : PerPollutant (Option Nat)) : StoredSample :=
  if o2Valid = false ∨ 2000 ≤ o then
    ⟨o, PerPollutant.make (fun _ => none), true⟩
  else
    ⟨o, PerPollutant.make (fun p => (values.get p).map (normalise oRef o)), false⟩

/-! ### Slot close -/

/-- A channel with one more valid value (R121). -/
def LedgerChannel.add (ch : LedgerChannel) (c : Option Nat) : LedgerChannel :=
  match c with
  | some c => { ch with sum := ch.sum + c, count := ch.count + 1 }
  | none => ch

/-- A line's ledger items after a slot close of an operating line (R121). The block's sums stand through every change of
the line's state (R122), so a block may take samples normalised to two references, which R136 says no block does
(DESIGN CHOICE, log 19). -/
def LedgerLine.operatingSlot (r : LedgerLine) : LedgerLine :=
  { r with
    store := none
    nOp := r.nOp + 1
    channels := match r.store with
      | some x => PerPollutant.make (fun p => (r.channels.get p).add (x.values.get p))
      | none => r.channels }

/-- The slot close of one line (R121): an operating line's slot counts, and a slot without a sample sets
SAMPLE_MISSING; the store is emptied in every state. The state at the close decides, so a sample kept through OFFLINE and
a write of o_ref, which R136 says is dropped, counts when the line operates again by then (DESIGN CHOICE, log 19). -/
def slotCloseLine (l : Line) (s : State) : State :=
  let r := s.ledger.get l
  if (s.lineState l).operating then
    let s' := s.setLedger l r.operatingSlot
    if r.store.isNone then setFlag .sampleMissing s' else s'
  else s.setLedger l { r with store := none }

/-- The slot stage of a close, for every fitted line (R121). -/
def slotStage (s : State) : State :=
  forLines s.fittedLines slotCloseLine s

/-! ### Block close -/

/-- The result of a block from its operating slot count, block sum and valid count (R123); the threshold
ceil(3 n / 4) is (3 n + 3) div 4. -/
def blockResult (nOp sum v : Nat) : BlockStatus :=
  if nOp < 6 then .idle
  else if (3 * nOp + 3) / 4 ≤ v then .valid (sum / v)
  else .invalid

/-- A channel's result for the closing block. -/
def LedgerChannel.result (ch : LedgerChannel) (nOp : Nat) : BlockStatus :=
  blockResult nOp ch.sum ch.count

/-- The entry of the current-period block record at an index 0..2. -/
def LedgerChannel.block (ch : LedgerChannel) (i : Nat) : BlockEntry :=
  match i with
  | 0 => ch.block0
  | 1 => ch.block1
  | _ => ch.block2

/-- The entry at an index replaced. -/
def LedgerChannel.setBlock (ch : LedgerChannel) (i : Nat) (e : BlockEntry) : LedgerChannel :=
  match i with
  | 0 => { ch with block0 := e }
  | 1 => { ch with block1 := e }
  | _ => { ch with block2 := e }

/-- The channel after its block is closed into the entry of index `i` (R124). -/
def LedgerChannel.closeBlock (ch : LedgerChannel) (nOp i : Nat) : LedgerChannel :=
  { ch.setBlock i ⟨ch.result nOp, nOp, ch.count⟩ with sum := 0, count := 0 }

/-- The six block results of a line (R124). -/
def LedgerLine.results (r : LedgerLine) : PerPollutant BlockStatus :=
  PerPollutant.make (fun p => (r.channels.get p).result r.nOp)

/-- The line's ledger items after a block close (R124). -/
def LedgerLine.closeBlock (r : LedgerLine) (i : Nat) : LedgerLine :=
  { r with nOp := 0, channels := PerPollutant.make (fun p => (r.channels.get p).closeBlock r.nOp i) }

/-! ### Period close -/

/-- The three entries' statuses. -/
def LedgerChannel.statuses (ch : LedgerChannel) : List BlockStatus :=
  [ch.block0.status, ch.block1.status, ch.block2.status]

/-- The means of the valid entries of a period. -/
def LedgerChannel.validMeans (ch : LedgerChannel) : List Nat :=
  ch.statuses.filterMap BlockStatus.mean?

/-- The status of a channel's period (R126). -/
def LedgerChannel.periodStatus (ch : LedgerChannel) : MeanStatus :=
  if ch.statuses.all (fun b => decide (b = .idle)) then .idle
  else if 2 ≤ ch.validMeans.length then .valid (ch.validMeans.sum / ch.validMeans.length)
  else .invalid

/-- VALID with a mean above a limit (R126, R131). -/
def MeanStatus.above (st : MeanStatus) (limit : Nat) : Bool :=
  match st with
  | .valid m => decide (limit < m)
  | .idle | .invalid => false

/-- A period result as handed to the compliance monitor (R127). -/
structure PeriodResult where
  status : MeanStatus
  exceeded : Bool
  deriving DecidableEq, Repr

/-- A channel's period result under its period limit (R126). -/
def LedgerChannel.periodResult (ch : LedgerChannel) (limit : Nat) : PeriodResult :=
  ⟨ch.periodStatus, ch.periodStatus.above limit⟩

/-- The day accumulator with one more period (R127). -/
def DayAcc.add (d : DayAcc) (st : MeanStatus) : DayAcc :=
  match st with
  | .valid m => { d with sum := d.sum + m, valid := d.valid + 1 }
  | .invalid => { d with invalid := d.invalid + 1 }
  | .idle => { d with idle := d.idle + 1 }

/-- An entry of the block record while its block has not closed (R117). -/
def BlockEntry.reset : BlockEntry := ⟨.opened, 0, 0⟩

/-- A channel after a period close (R127): day accumulator, history entry at the head with the newest 48 kept
(R128), block record OPEN. -/
def LedgerChannel.closePeriod (ch : LedgerChannel) (start : Nat) (limit : Nat) (episodeOpen : Bool) :
    LedgerChannel :=
  let r := ch.periodResult limit
  let e : HistoryEntry := ⟨start, false, r.status, ch.validMeans.length, r.exceeded, episodeOpen⟩
  { ch with
    day := ch.day.add r.status
    history := (e :: ch.history).take 48
    block0 := .reset
    block1 := .reset
    block2 := .reset }

/-! ### Day close -/

/-- The status of a day (R131). -/
def DayAcc.status (d : DayAcc) (gap : Nat) : MeanStatus :=
  if d.valid = 0 ∧ d.invalid = 0 then .idle
  else if 1 ≤ d.valid ∧ d.invalid ≤ gap then .valid (d.sum / d.valid)
  else .invalid

/-- The last-day record of a day accumulator (R131). -/
def DayAcc.record (d : DayAcc) (cfg : LedgerConfig) : DayRecord :=
  ⟨d.status cfg.gapAllowance, (d.status cfg.gapAllowance).above cfg.dayLimit, d.valid, d.invalid, d.idle, d.start⟩

/-- The day markers shift: YESTERDAY's entries go, TODAY's become YESTERDAY's (R128). -/
def shiftMarkers (h : List HistoryEntry) : List HistoryEntry :=
  (h.filter (fun e => !e.yesterday)).map (fun e => { e with yesterday := true })

/-- A channel after a day close (R131). -/
def LedgerChannel.closeDay (ch : LedgerChannel) (cfg : LedgerConfig) : LedgerChannel :=
  { ch with
    lastDay := some (ch.day.record cfg)
    day := ⟨0, 0, 0, 0, 0⟩
    history := shiftMarkers ch.history }

/-- The day close of one line. -/
def dayCloseLine (l : Line) (s : State) : State :=
  let r := s.ledger.get l
  s.setLedger l { r with
    channels := PerPollutant.make (fun p => (r.channels.get p).closeDay (s.ledgerConfig l p)) }

/-- Whether a line closed its day exceeded on some channel. -/
def State.dayExceeded (s : State) (l : Line) : Bool :=
  allPollutants.any (fun p => match ((s.ledger.get l).channels.get p).lastDay with
    | some d => d.exceeded
    | none => false)

/-- The day stage (R131): every channel of every fitted line, then DAY_CLOSED and DAY_EXCEEDED once. -/
def dayStage (s : State) : State :=
  let s := setFlag .dayClosed (forLines s.fittedLines dayCloseLine s)
  if s.fittedLines.any s.dayExceeded then setFlag .dayExceeded s else s

/-! ### Restart (R132) -/

/-- An entry of the block record after a full set to a minute: IDLE when its division of the half hour lies wholly
before the set's time, else OPEN (R132). -/
def restartEntry (minute i : Nat) : BlockEntry :=
  if 10 * (i + 1) ≤ minute % 30 then ⟨.idle, 0, 0⟩ else .reset

/-- A channel after a full set to a minute; the last-day record is kept (R132). -/
def LedgerChannel.restart (ch : LedgerChannel) (minute : Nat) : LedgerChannel :=
  { ch with
    sum := 0
    count := 0
    block0 := restartEntry minute 0
    block1 := restartEntry minute 1
    block2 := restartEntry minute 2
    history := []
    day := ⟨0, 0, 0, 0, minute⟩ }

/-- A line's ledger items after a full set (R132). -/
def LedgerLine.restart (r : LedgerLine) (minute : Nat) : LedgerLine :=
  ⟨none, 0, PerPollutant.make (fun p => (r.channels.get p).restart minute)⟩

/-- The ledger takes the restart notice, for every fitted line (R132). -/
def ledgerRestart (minute : Nat) (s : State) : State :=
  forLines s.fittedLines (fun l s => s.setLedger l ((s.ledger.get l).restart minute)) s

end Sys2Proof.Machine
end

