-- ==== Sys2Proof/Machine/Feed.lean ====
section
/-! DEFINITION. The feed computation and the heat value estimator (chapter 5). -/

namespace Sys2Proof.Machine

/-- A period after its clamp to a generator's limits, in fine units (R83, R84). -/
def clampPeriod (q : Nat) (g : GenConfig) : Nat :=
  clampNat q (g.periodMin * 64) (g.periodMax * 64)

/-- The clamp state that records the clamp from `q0` to `q` (R83). -/
def clampStateOf (q0 q : Nat) : ClampState :=
  if q0 < q then .atPmin else if q < q0 then .atPmax else .within

/-- The base demand in CONNECTED: M1 = floor(S * 100 * h * 1000 / (eta * L)) (R79). -/
def baseDemand (assigned : Nat) (cfg : LineConfig) (lhv : Nat) : Nat :=
  assigned * 100 * cfg.enthalpyRise * 1000 / (cfg.efficiency * lhv)

/-- The stages M1, M2, M3, M4 of a run in a feeding state (R79, R80). -/
def demandStages (s : State) (l : Line) : Nat × Nat × Nat × Nat :=
  let cfg := s.lineConfig l
  let t := (s.monitor.get l).throttle
  if s.lineState l = .connected then
    let m1 := baseDemand (s.alloc.record.assigned.get l) cfg (s.feed.get l).lhv
    let m2 := min m1 cfg.feedMax
    let m3 := m2 * t / 1000
    (m1, m2, m3, max m3 cfg.feedMin)
  else
    let m1 := (s.line l).startupRequest
    let m2 := min m1 cfg.startupFeedMax
    let m3 := m2 * t / 1000
    (m1, m2, m3, m3)

/-- The record with its demand written: M1, M4, the stage marks, the held mark cleared, and the reference feed set
by an M4 above 0 (R77, R80, R81). -/
def FeedRecord.withDemand (r : FeedRecord) (m1 m2 m3 m4 : Nat) : FeedRecord :=
  { r with
    m1 := m1
    m4 := m4
    capped := decide (m2 < m1)
    throttled := decide (m3 < m2)
    raised := decide (m3 < m4)
    held := false
    reference := if m4 = 0 then r.reference else some m4 }

/-- A zone period before its clamp: floor(Q * r_z / 100) (R84). -/
def zonePeriod (q : Nat) (g : GenConfig) : Nat := q * g.zoneRatio / 100

/-- The record with the periods of a demand: none when M4 is 0, else the feeder period of the demand and the zone
periods of the feeder as paced, each clamped (R83, R84). -/
def FeedRecord.withPeriods (r : FeedRecord) (charge : Nat) (g : PerGen GenConfig) : FeedRecord :=
  if r.m4 = 0 then
    { r with
      periods := ⟨none, none, none, none⟩
      clamps := ⟨.within, .within, .within, .within⟩
      paced := 0 }
  else
    let q0 := 23040000 * charge / r.m4
    let q := clampPeriod q0 g.feed
    let z1 := zonePeriod q g.z1
    let z2 := zonePeriod q g.z2
    let z3 := zonePeriod q g.z3
    { r with
      periods := ⟨some q, some (clampPeriod z1 g.z1), some (clampPeriod z2 g.z2), some (clampPeriod z3 g.z3)⟩
      clamps := ⟨clampStateOf q0 q, clampStateOf z1 (clampPeriod z1 g.z1),
        clampStateOf z2 (clampPeriod z2 g.z2), clampStateOf z3 (clampPeriod z3 g.z3)⟩
      paced := 23040000 * charge / q }

/-- The feed record a run in a feeding state writes. -/
def feedResult (s : State) (l : Line) : FeedRecord :=
  let m := demandStages s l
  ((s.feed.get l).withDemand m.1 m.2.1 m.2.2.1 m.2.2.2).withPeriods (s.lineConfig l).strokeCharge
    (s.config.gen.get l)

/-- The four stroke generators receive their periods (R85). -/
def handFeedPeriods (l : Line) (p : PerStroke (Option Nat)) (s : State) : State :=
  handPeriod l .z3 p.z3 (handPeriod l .z2 p.z2 (handPeriod l .z1 p.z1 (handPeriod l .feed p.feed s)))

/-- A changed reference feed is handed to the dosing computation (R81). -/
def referenceChanged (l : Line) (before : Option Nat) (s : State) : State :=
  if (s.feed.get l).reference = before then s else doseComputeBoth l s

/-- A run of the feed computation for a line, by its state (R76, R77). -/
def feedRun (l : Line) (s : State) : State :=
  match s.lineState l with
  | .offline => s
  | .hold | .burnout | .tripped => s.setFeed l { s.feed.get l with held := true }
  | .firingUp | .connectPending | .connecting | .connected =>
    let r := feedResult s l
    referenceChanged l (s.feed.get l).reference (handFeedPeriods l r.periods (s.setFeed l r))

/-- The feed record on entering OFFLINE (R78); the ring and the last block steam are kept. -/
def FeedRecord.offline (r : FeedRecord) (lhvInit : Nat) : FeedRecord :=
  { r with
    m1 := 0
    m4 := 0
    capped := false
    throttled := false
    raised := false
    held := false
    reference := none
    periods := ⟨none, none, none, none⟩
    clamps := ⟨.within, .within, .within, .within⟩
    paced := 0
    lhv := lhvInit
    blockValue := none
    outcome := .none }

/-- The feed computation unit on a line's entering OFFLINE (R78). -/
def feedOffline (l : Line) (s : State) : State :=
  let before := (s.feed.get l).reference
  let s := s.setLine l { s.line l with startupRequest := 0 }
  referenceChanged l before (s.setFeed l ((s.feed.get l).offline (s.lineConfig l).lhvInit))

/-- A completed stroke of the FEED generator adds its stroke charge to the current block (R87). Past 65535, the
range of R75, the count goes on and the mass with it: the spec gives neither a stop nor a wrap (DESIGN CHOICE, log 22). -/
def strokeReported (l : Line) (s : State) : State :=
  let r := s.feed.get l
  s.setFeed l { r with strokes := r.strokes + 1, mass := r.mass + (s.lineConfig l).strokeCharge }

/-! ### The heat value estimator -/

/-- The ring entry `lag` blocks back (R88). -/
def FeedRecord.pairedMass (r : FeedRecord) (lag : Nat) : Nat :=
  match lag with
  | 0 => r.mass
  | 1 => r.massPrev
  | _ => r.massPrev2

/-- The record after one estimate with `n` steam pulses in the closing block (R88). -/
def FeedRecord.estimated (r : FeedRecord) (cfg : LineConfig) (n : Nat) : FeedRecord :=
  let paired := r.pairedMass cfg.lhvLag
  let steam := n * cfg.steamPulseQ
  if paired < 3 * cfg.strokeCharge then
    { r with blockSteam := n, blockValue := none, outcome := .heldMass }
  else if steam = 0 then
    { r with blockSteam := n, blockValue := none, outcome := .heldSteam }
  else
    let v := clampNat (steam * cfg.enthalpyRise * 1000 / (cfg.efficiency * paired)) 5000 18000
    let step := (((v : Int) - r.lhv) * cfg.lhvWeight).tdiv 16
    { r with
      blockSteam := n
      blockValue := some v
      outcome := .updated
      lhv := (clampInt (r.lhv + step) 5000 18000).toNat }

/-- The ring shifts (R87). -/
def FeedRecord.shiftRing (r : FeedRecord) : FeedRecord :=
  { r with strokes := 0, mass := 0, massPrev := r.mass, massPrev2 := r.massPrev }

/-- The feed computation unit takes a block close for a fitted line: an estimate unless OFFLINE (R88), the shift
of the ring (R87), and a run when the estimate changed L (R89). -/
def estimatorBlockClose (l : Line) (n : Nat) (s : State) : State :=
  let r := s.feed.get l
  let r' := if (s.lineState l).operating then r.estimated (s.lineConfig l) n else r
  let s := s.setFeed l r'.shiftRing
  if r'.lhv = r.lhv then s else feedRun l s

end Sys2Proof.Machine
end

