-- ==== Sys2Proof/Machine/Allocation.lean ====
section
/-! DEFINITION. The characteristic table (R69), the division of steam and shedding (chapter 2), and the changes of
line state that carry them (R3, R6). -/

namespace Sys2Proof.Machine

/-! ### The characteristic table -/

/-- A lookup on points in rising order of `x`: the first `y` at or below the first `x`, the last `y` at or above the
last, and in between y_k + floor((x - x_k) * (y_k+1 - y_k) / (x_k+1 - x_k)) (R69). -/
def lookupPoints : List (Nat × Nat) → Nat → Nat
  | [], _ => 0
  | [p], _ => p.2
  | p :: q :: rest, x =>
    if x ≤ p.1 then p.2
    else if x < q.1 then p.2 + (x - p.1) * (q.2 - p.2) / (q.1 - p.1)
    else lookupPoints (q :: rest) x

/-- char(P), the steam for a power (R69). -/
def charLookup (c : PlantConfig) (p : Nat) : Nat :=
  lookupPoints (c.charP.zip c.charS) p

/-- inv(S), the power for a steam (R69). -/
def invLookup (c : PlantConfig) (steam : Nat) : Nat :=
  lookupPoints (c.charS.zip c.charP) steam

/-! ### The division (R32 to R37) -/

/-- What a division gives before it is written: assignments, D_s, B, X and shortfall. -/
structure Division where
  assigned : PerLine Nat
  target : Nat
  bypass : Nat
  served : Nat
  shortfall : Bool
  deriving DecidableEq, Repr

/-- The sum over the three lines. -/
def PerLine.sum (t : PerLine Nat) : Nat := t.a + t.b + t.c

/-- The effective maximum emax = max(s_min, floor(s_max * T / 1000)) (R32). -/
def State.emax (s : State) (l : Line) : Nat :=
  max (s.lineConfig l).sMin ((s.lineConfig l).sMax * (s.monitor.get l).throttle / 1000)

/-- A value for each line of a set, 0 outside it. -/
def onSet (conn : PerLine Bool) (f : Line → Nat) : PerLine Nat :=
  ⟨if conn.a then f .a else 0, if conn.b then f .b else 0, if conn.c then f .c else 0⟩

/-- Whether a line comes before another in letter order. -/
def lineBefore : Line → Line → Bool
  | .a, .b => true
  | .a, .c => true
  | .b, .c => true
  | _, _ => false

/-- How many lines are served a leftover unit before `l`: those with a larger remainder, or the same and an earlier
letter (R36). -/
def servedBefore (rem : PerLine Nat) (l : Line) : Nat :=
  (allLines.filter (fun k => decide (rem.get l < rem.get k) ||
    (decide (rem.get l = rem.get k) && lineBefore k l))).length

/-- The shares of an excess E over headrooms: the proportional part rounded down, and a leftover unit each to the
lines with the largest remainders (R36). -/
def shares (excess : Nat) (head : PerLine Nat) : PerLine Nat :=
  let h := head.sum
  let part (l : Line) : Nat := excess * head.get l / h
  let rem : PerLine Nat :=
    ⟨excess * head.a % h, excess * head.b % h, excess * head.c % h⟩
  let left := excess - (part .a + part .b + part .c)
  let share (l : Line) : Nat := part l + (if servedBefore rem l < left then 1 else 0)
  ⟨share .a, share .b, share .c⟩

/-- The lines' values added pairwise. -/
def PerLine.add (x y : PerLine Nat) : PerLine Nat := ⟨x.a + y.a, x.b + y.b, x.c + y.c⟩

/-- The division in POWER_LED (R33 to R36) of the capped demand and the auxiliary demand. -/
def dividePower (mins maxs : PerLine Nat) (demand aux : Nat) : Division :=
  let need := demand + aux
  let smin := mins.sum
  let smax := maxs.sum
  if need ≤ smin then
    ⟨mins, demand, smin - need, aux, false⟩
  else if smax ≤ need then
    ⟨maxs, min demand (smax - min aux smax), 0, min aux smax, decide (smax < need)⟩
  else
    let head : PerLine Nat := ⟨maxs.a - mins.a, maxs.b - mins.b, maxs.c - mins.c⟩
    ⟨mins.add (shares (need - smin) head), demand, 0, aux, false⟩

/-- The division in STEAM_LED (R37). -/
def divideSteam (noms : PerLine Nat) (ceiling aux : Nat) : Division :=
  let g := noms.sum
  let x := min aux g
  let ds := min (g - x) ceiling
  ⟨noms, ds, g - x - ds, x, decide (x < aux)⟩

/-- The computation of the mode in force on a set of connected lines (R32, R33, R37). -/
def State.divide (s : State) (conn : PerLine Bool) : Division :=
  match s.sched.mode with
  | .powerLed =>
    dividePower (onSet conn (fun l => (s.lineConfig l).sMin)) (onSet conn s.emax)
      (min (charLookup s.config.plant s.sched.ramped) s.sched.ceiling) s.alloc.aux
  | .steamLed =>
    divideSteam (onSet conn (fun l => clampNat (s.lineConfig l).sNom (s.lineConfig l).sMin (s.emax l)))
      s.sched.ceiling s.alloc.aux

/-- The computation with shedding: while the bypass target is above bypass_max the connected line latest in the
shedding order leaves the set (R38). The list is the shedding order, latest first. -/
def State.divideShedding (s : State) : List Line → PerLine Bool → Division × PerLine Bool
  | [], conn => (s.divide conn, conn)
  | l :: rest, conn =>
    if (s.divide conn).bypass ≤ s.config.plant.bypassMax then (s.divide conn, conn)
    else State.divideShedding s rest (conn.set l false)

/-- The connected lines (R32). -/
def State.connectedSet (s : State) : PerLine Bool :=
  ⟨decide (s.lineState .a = .connected), decide (s.lineState .b = .connected),
    decide (s.lineState .c = .connected)⟩

/-! ### Changes of line state -/

/-- The registry's part of a change of state: the new state, CLEAR_TO_CONNECT in step with CONNECTING (R23), and
STATE_CHANGED when `flagged` (R3). -/
def registryState (l : Line) (new : LineState) (flagged : Bool) (s : State) : State :=
  let s := s.setLine l { s.line l with state := new }
  let s := setCondition (.clearToConnect l) (decide (new = .connecting)) s
  if flagged then setFlag (.stateChanged l) s else s

/-- A change of line state as the registry, the generator array and the dosing computation take it; the feed run
comes after it, and after the recomputation where there is one (R3, R76, R154). -/
def changeState (l : Line) (new : LineState) (flagged : Bool) (s : State) : State :=
  let old := s.lineState l
  doseComputeBoth l (gensOnLineState l old new (registryState l new flagged s))

/-- A change of state that does not cross CONNECTED, or that the allocator makes itself. -/
def enterPlain (l : Line) (new : LineState) (flagged : Bool) (s : State) : State :=
  feedRun l (changeState l new flagged s)

/-- Write a line's hold record. -/
def setHold (l : Line) (r : Reasons) (ret : Option ReturnState) (s : State) : State :=
  s.setLine l { s.line l with reasons := r, returnTo := ret }

/-- No hold reason. -/
def Reasons.none : Reasons := ⟨false, false, false⟩

/-- Whether a set of reasons is empty. -/
def Reasons.isEmpty (r : Reasons) : Bool := !(r.requested || r.shed || r.jam)

/-- The shed set with SHED in step (R39). -/
def setShed (l : Line) (b : Bool) (s : State) : State :=
  let s := { s with alloc := { s.alloc with shed := s.alloc.shed.set l b } }
  setCondition .shed (s.alloc.shed.a || s.alloc.shed.b || s.alloc.shed.c) s

/-- The allocator sheds a line (R9, R38). -/
def shedLine (l : Line) (s : State) : State :=
  enterPlain l .hold true (setShed l true (setHold l ⟨false, true, false⟩ (some .connected) s))

/-! ### The recomputation (R29, R30) -/

/-- The record a division writes; the revision count rises when any other field differs (R29). R29 also has a recomputation
that sheds raise the count: where one sheds and yet leaves every other field as it was, the count stands (DESIGN CHOICE,
log 23). -/
def AllocRecord.written (r : AllocRecord) (d : Division) (m : Mode) : AllocRecord :=
  let r' : AllocRecord := ⟨d.assigned, d.target, d.bypass, d.served, m, d.shortfall, r.revision⟩
  if r' = r then r else { r' with revision := r.revision + 1 }

/-- The scheduler acts on the admission target (R72). -/
def targetFeedback (s : State) : State :=
  let ds := s.alloc.record.target
  let er := s.sched.ramped
  let plant := s.config.plant
  match s.sched.mode with
  | .powerLed =>
    if ds < charLookup plant er then
      { s with sched := { s.sched with ramped := min er (invLookup plant ds) } }
    else s
  | .steamLed => { s with sched := { s.sched with ramped := invLookup plant ds } }

/-- The deadband test of a line's assignment (R44). -/
def flagAssignment (l : Line) (s : State) : State :=
  let now := s.alloc.record.assigned.get l
  if s.config.plant.deadband ≤ distance now (s.alloc.flagged.get l) then
    setFlag (.assignmentChanged l) { s with alloc := { s.alloc with flagged := s.alloc.flagged.set l now } }
  else s

/-- The deadband test of the admission target (R45). -/
def flagTarget (s : State) : State :=
  let now := s.alloc.record.target
  if s.config.plant.deadband ≤ distance now s.alloc.flaggedTarget then
    setFlag .targetChanged { s with alloc := { s.alloc with flaggedTarget := now } }
  else s

/-- BYPASS_ACTIVE and SHORTFALL (R46). -/
def allocConditions (s : State) : State :=
  setCondition .shortfall s.alloc.record.shortfall
    (setCondition .bypassActive (decide (0 < s.alloc.record.bypass)) s)

/-- A recomputation of the allocation, whole: shedding, the record, and the hand-offs (R29, R30, R38). -/
def recompute (s : State) : State :=
  let conn := s.connectedSet
  let res := s.divideShedding s.config.plant.shedOrder.reverse conn
  let toShed := allLines.filter (fun l => conn.get l && !res.2.get l)
  let before := s.alloc.record
  let s := forLines toShed shedLine s
  let s := s.setAlloc (before.written res.1 s.sched.mode)
  let s := targetFeedback s
  let s := forLines (s.fittedLines) flagAssignment s
  let s := allocConditions (flagTarget s)
  forLines (s.fittedLines.filter (fun l => decide (res.1.assigned.get l ≠ before.assigned.get l))) feedRun s

/-- A change of line state with what it carries: into or out of CONNECTED the recomputation, and then the feed
computation's run (R3, R76). -/
def enter (l : Line) (new : LineState) (flagged : Bool) (s : State) : State :=
  let crosses := decide (s.lineState l = .connected ∨ new = .connected)
  let s := changeState l new flagged s
  feedRun l (if crosses then recompute s else s)

end Sys2Proof.Machine
end

