-- ==== Sys2Proof/Machine/Registry.lean ====
section
/-! DEFINITION. The line registry's operations: the connect arbiter (1.9), hold and its reasons (1.4), burnout, trip
and offline (1.5), the throttle's hand-off (R140), jams (R10), the configured mark (R4). -/

namespace Sys2Proof.Machine

/-! ### The connect arbiter -/

/-- A surge is present: the pressure above p_hi or the rise rate at or above surge_rate (R23). -/
def State.surge (s : State) : Bool :=
  decide (s.config.plant.pHi < s.registry.header.pressure) ||
    decide ((s.config.plant.surgeRate : Int) ≤ s.registry.header.riseRate)

/-- What the grant test asks besides a waiting line: the slot free, the header record fresh, its pressure within the
connect window and no surge (R23). -/
def State.mayGrant (s : State) : Bool :=
  s.registry.slot.isNone && !s.registry.header.stale &&
    decide (s.config.plant.pLo ≤ s.registry.header.pressure) &&
    decide (s.registry.header.pressure ≤ s.config.plant.pHi) && !s.surge

/-- The grant test (R23): the head of the queue takes the slot and enters CONNECTING. -/
def grantTest (s : State) : State :=
  match s.registry.queue with
  | [] => s
  | l :: rest =>
    if s.mayGrant then
      let slot : ConnectSlot := ⟨l, s.now, s.config.plant.connectTimeout * 100⟩
      enterPlain l .connecting true
        { s with registry := { s.registry with queue := rest, slot := some slot } }
    else s

/-- A line leaves the connect queue, the others keeping their order (R21). -/
def leaveQueue (l : Line) (s : State) : State :=
  { s with registry := { s.registry with queue := s.registry.queue.filter (fun k => decide (k ≠ l)) } }

/-- The connect slot frees, and with it the connect timer (R24, R25). -/
def freeSlot (s : State) : State :=
  { s with registry := { s.registry with slot := none } }

/-- What is undone as a line leaves its state for good: its queue place, its connect slot, or its hold record with
its place in the shed set (R10, R11, R14, R39). -/
def undo (l : Line) (s : State) : State :=
  match s.lineState l with
  | .connectPending => leaveQueue l s
  | .connecting => freeSlot s
  | .hold => setShed l false (setHold l Reasons.none none s)
  | .offline | .firingUp | .connected | .burnout | .tripped => s

/-- The grant test runs when the line left was CONNECTING, its slot having freed (R25). -/
def grantIfFreed (old : LineState) (s : State) : State :=
  if old = .connecting then grantTest s else s

/-- A line leaves its state for BURNOUT or TRIPPED (R11, R12, R14). -/
def leaveFor (l : Line) (new : LineState) (flagged : Bool) (s : State) : State :=
  grantIfFreed (s.lineState l) (enter l new flagged (undo l s))

/-! ### Hold -/

/-- The return state of a line that enters HOLD from a state (R6). -/
def returnStateFrom : LineState → ReturnState
  | .connected => .connected
  | .firingUp | .connectPending | .connecting | .offline | .hold | .burnout | .tripped => .firingUp

/-- The line state a return state names. -/
def ReturnState.lineState : ReturnState → LineState
  | .firingUp => .firingUp
  | .connected => .connected

/-- A line enters HOLD with one first reason (R6, R7, R10). -/
def enterHold (l : Line) (r : Reasons) (flagged : Bool) (s : State) : State :=
  let old := s.lineState l
  grantIfFreed old (enter l .hold flagged (setHold l r (some (returnStateFrom old)) (undo l s)))

/-- The reasons of a held line become `r`: with none left the line leaves HOLD for its return state (R6). -/
def setReasons (l : Line) (r : Reasons) (flagged : Bool) (s : State) : State :=
  let rec0 := s.line l
  if r.isEmpty then
    enter l ((rec0.returnTo.getD .firingUp).lineState) flagged (setHold l Reasons.none none s)
  else setHold l r rec0.returnTo s

/-! ### The throttle -/

/-- A line's throttle takes a new value, and THROTTLED follows (R140). -/
def writeThrottle (l : Line) (t : Nat) (s : State) : State :=
  setCondition (.throttled l) (decide (t < 1000)) (s.setMonitor l { s.monitor.get l with throttle := t })

/-- Those that take a change of a throttle (R140). -/
inductive ThrottleTask where
  | feed | allocator
  deriving DecidableEq, Repr

/-- One of them takes the change. -/
def runThrottleTask (l : Line) : ThrottleTask → State → State
  | .feed, s => feedRun l s
  | .allocator, s => recompute s

/-- A line's throttle becomes `t`; a change is handed to the feed computation unit and to the allocator, in either
order (R140). -/
def setThrottle (l : Line) (t : Nat) (s : State) : State :=
  if (s.monitor.get l).throttle = t then s
  else forEachInAnyOrder [.feed, .allocator] (runThrottleTask l) (writeThrottle l t s)

/-- EPISODE_OPEN: an episode of any fitted line is OPEN (R142, R143). -/
def episodeCondition (s : State) : State :=
  setCondition .episodeOpen (s.fittedLines.any (fun l => (s.monitor.get l).episodeOpen)) s

/-! ### Offline -/

/-- The monitor on a line's entering OFFLINE: an open episode closes, and the throttle returns to 1000, handed on as
any other change; the run of an OFFLINE line changes nothing (R13, R77, R140). -/
def monitorOffline (l : Line) (s : State) : State :=
  let m := s.monitor.get l
  let s := s.setMonitor l { m with episodeOpen := false, length := 0, compliant := 0, throttle := 1000 }
  let s := episodeCondition s
  let s := setCondition (.throttled l) false s
  if m.throttle = 1000 then s else recompute s

/-- A line enters OFFLINE, from BURNOUT or TRIPPED, with the effects at every owner (R13, R44, R78, R99). -/
def enterOffline (l : Line) (s : State) : State :=
  let old := s.lineState l
  let s := setHold l Reasons.none none s
  let s := s.setLine l { s.line l with deviation := 0 }
  let s := setCondition (.steamDeviation l) false s
  let s := registryState l .offline false s
  let s := gensOnLineState l old .offline s
  let s := setCondition (.jam l) (s.anyFault l) s
  let s := { s with alloc := { s.alloc with flagged := s.alloc.flagged.set l 0 } }
  let s := feedOffline l s
  let s := dosingOffline l s
  monitorOffline l s

/-! ### Jams -/

/-- The registry acts on a jam by the line's state (R10). -/
def jamHold (l : Line) (s : State) : State :=
  match s.lineState l with
  | .firingUp | .connectPending | .connecting | .connected => enterHold l ⟨false, false, true⟩ true s
  | .hold => setHold l { (s.line l).reasons with jam := true } (s.line l).returnTo s
  | .offline | .burnout | .tripped => s

/-- JAM is decided again after FAULT_CLEAR, and with no generator in FAULT the reason leaves a held line (R10,
R110). -/
def jamCleared (l : Line) (s : State) : State :=
  if s.anyFault l then s
  else
    let s := setCondition (.jam l) false s
    if s.lineState l = .hold ∧ (s.line l).reasons.jam = true then
      setReasons l { (s.line l).reasons with jam := false } false s
    else s

/-! ### The configured mark -/

/-- Whether a line is configured (R4). -/
def State.configured (s : State) (l : Line) : Bool :=
  s.config.plant.written && (s.lineConfig l).written &&
    allGens.all (fun g => (s.genConfig l g).written) &&
    allPollutants.all (fun p => (s.ledgerConfig l p).written) &&
    (s.dosingConfig l .nox).written && (s.dosingConfig l .acid).written &&
    (s.monitor.get l).budgetLoaded

/-- CONFIG_INCOMPLETE: a fitted line is not configured (R4). -/
def configCondition (s : State) : State :=
  setCondition .configIncomplete (s.fittedLines.any (fun l => !s.configured l)) s

/-- All fitted lines are OFFLINE (R51, R136). -/
def State.allOffline (s : State) : Bool :=
  s.fittedLines.all (fun l => decide (s.lineState l = .offline))

end Sys2Proof.Machine
end

