-- ==== Sys2Proof/Machine/Compliance.lean ====
section
/-! DEFINITION. The compliance monitor: throttle law, episodes, budget, forced burnout (chapter 8). -/

namespace Sys2Proof.Machine

/-! ### The throttle -/

/-- Whether a channel takes part in the throttle law (R138). -/
def State.throttleChannel (s : State) (l : Line) (p : Pollutant) : Bool :=
  (s.ledgerConfig l p).throttlesFeed

/-- A throttle channel has a VALID block whose mean * 1000 is above its period_limit * warn (R138). -/
def State.warned (s : State) (l : Line) (results : PerPollutant BlockStatus) : Bool :=
  allPollutants.any (fun p => s.throttleChannel l p &&
    match results.get p with
    | .valid m => decide ((s.ledgerConfig l p).periodLimit * (s.lineConfig l).warn < m * 1000)
    | .opened | .idle | .invalid => false)

/-- A throttle channel has an INVALID block. -/
def State.badlyMeasured (s : State) (l : Line) (results : PerPollutant BlockStatus) : Bool :=
  allPollutants.any (fun p => s.throttleChannel l p && decide (results.get p = .invalid))

/-- The cap while the episode is OPEN: max(floor, min(T, episode_throttle)) (R139). -/
def capThrottle (cfg : LineConfig) (episodeOpen : Bool) (t : Nat) : Nat :=
  if episodeOpen then max cfg.throttleFloor (min t cfg.episodeThrottle) else t

/-- The throttle the law gives, before the cap (R138). -/
def lawThrottle (s : State) (l : Line) (results : PerPollutant BlockStatus) : Nat :=
  let m := s.monitor.get l
  let cfg := s.lineConfig l
  if s.warned l results then max cfg.throttleFloor (m.throttle - cfg.stepDown)
  else if m.episodeOpen = false ∧ s.badlyMeasured l results = false then min 1000 (m.throttle + cfg.stepUp)
  else m.throttle

/-- The compliance monitor takes a block close for a line: the law and the cap, unless the line is OFFLINE (R138,
R139, R140). -/
def monitorBlockClose (l : Line) (results : PerPollutant BlockStatus) (s : State) : State :=
  if (s.lineState l).operating then
    setThrottle l (capThrottle (s.lineConfig l) (s.monitor.get l).episodeOpen (lawThrottle s l results)) s
  else s

/-! ### Episodes (R141 to R146) -/

/-- The classes of a period (R141). -/
inductive PeriodClass where
  | exceeded | invalid | idle | compliant
  deriving DecidableEq, Repr

/-- The class of a period, the first that matches (R141). -/
def classify (r : PerPollutant PeriodResult) : PeriodClass :=
  if allPollutants.any (fun p => (r.get p).exceeded) then .exceeded
  else if allPollutants.any (fun p => decide ((r.get p).status = .invalid)) then .invalid
  else if allPollutants.all (fun p => decide ((r.get p).status = .idle)) then .idle
  else .compliant

/-- One period longer, stopping at 65535 (R143). -/
def longer (n : Nat) : Nat := min 65535 (n + 1)

/-- The record after the episode is opened, lengthened or closed (R142, R143). A period of an open episode is never
classed Idle (R143). -/
def ComplianceRecord.evaluated (m : ComplianceRecord) (c : PeriodClass) : ComplianceRecord :=
  match m.episodeOpen, c with
  | false, .exceeded => { m with episodeOpen := true, length := 1, compliant := 0, evaluation := .opened }
  | false, .invalid | false, .idle | false, .compliant => { m with evaluation := .quiet }
  | true, .exceeded | true, .invalid =>
    { m with length := longer m.length, compliant := 0, evaluation := .lengthened }
  | true, .compliant =>
    if 1 ≤ m.compliant then { m with episodeOpen := false, length := 0, compliant := 0, evaluation := .closedNow }
    else { m with length := longer m.length, compliant := m.compliant + 1, evaluation := .compliant }
  | true, .idle => m

/-- The period counted against the budget when the episode ends it OPEN (R144). -/
def ComplianceRecord.counted (m : ComplianceRecord) (allowance : Nat) : ComplianceRecord :=
  if m.episodeOpen then { m with budgetUsed := min allowance (m.budgetUsed + 1) } else m

/-- The test for forced burnout (R145). -/
def ComplianceRecord.burns (m : ComplianceRecord) (cfg : LineConfig) : Bool :=
  (m.episodeOpen && decide (cfg.episodeLimit ≤ m.length)) || decide (m.budgetUsed = cfg.allowance)

/-- Lockout takes a value, and the LOCKOUT condition with it (R148). -/
def setLockout (l : Line) (b : Bool) (s : State) : State :=
  setCondition (.lockout l) b (s.setMonitor l { s.monitor.get l with lockout := b })

/-- Forced burnout (R12, R145). -/
def forceBurnout (l : Line) (s : State) : State :=
  leaveFor l .burnout true (setFlag .forcedBurnout (setLockout l true s))

/-- The states from which a line is forced into burnout: feeding, or HOLD (R145). -/
def LineState.forcible (st : LineState) : Bool := st.feeding || decide (st = .hold)

/-- Stages 1 to 3 of an evaluation: class, episode with its flags, budget (R146). -/
def evaluateEpisode (l : Line) (c : PeriodClass) (s : State) : State :=
  let before := s.monitor.get l
  let m := before.evaluated c
  let s := s.setMonitor l (m.counted (s.lineConfig l).allowance)
  let s := if before.episodeOpen = false ∧ m.episodeOpen = true then setFlag .episodeOpened s else s
  episodeCondition s

/-- The throttle of stage 4: the episode throttle while the episode is OPEN (R139). -/
def State.cappedThrottle (s : State) (l : Line) : Nat :=
  capThrottle (s.lineConfig l) (s.monitor.get l).episodeOpen (s.monitor.get l).throttle

/-- Stage 5: the test for forced burnout (R145). -/
def burnoutStage (l : Line) (s : State) : State :=
  if (s.monitor.get l).burns (s.lineConfig l) = true ∧ (s.lineState l).forcible = true then forceBurnout l s
  else s

/-- What stages 4 and 5 hand on: a change of the throttle to its two takers, and the test for forced burnout. -/
inductive EvaluationTask where
  | throttle (t : ThrottleTask)
  | burnout
  deriving DecidableEq, Repr

/-- One of these is taken. -/
def runEvaluationTask (l : Line) : EvaluationTask → State → State
  | .throttle t, s => runThrottleTask l t s
  | .burnout, s => burnoutStage l s

/-- Stages 4 and 5 (R146): the throttle takes its capped value; where that changes it, the hand-offs of the change and the
forced burnout are taken in any order (R31, R140). -/
def finishEvaluation (l : Line) (s : State) : State :=
  if (s.monitor.get l).throttle = s.cappedThrottle l then burnoutStage l s
  else
    forEachInAnyOrder [.throttle .feed, .throttle .allocator, .burnout] (runEvaluationTask l)
      (writeThrottle l (s.cappedThrottle l) s)

/-- The evaluation of one line at a period close (R141, R146). -/
def evaluatePeriod (l : Line) (r : PerPollutant PeriodResult) (s : State) : State :=
  if (s.lineState l).operating then finishEvaluation l (evaluateEpisode l (classify r) s)
  else s.setMonitor l { s.monitor.get l with evaluation := .quiet }

/-- The mark the monitor reports for a line: OPEN after stage 2 (R146). -/
def reportedOpen (l : Line) (r : PerPollutant PeriodResult) (s : State) : Bool :=
  (s.lineState l).operating && ((s.monitor.get l).evaluated (classify r)).episodeOpen

end Sys2Proof.Machine
end

