-- ==== Sys2Proof/Machine/Schedule.lean ====
section
/-! DEFINITION. The dispatch scheduler: queue, minute step, ceiling and mode (chapter 4). -/

namespace Sys2Proof.Machine

/-- Whether a start (day offset, minute) comes before another (R59). -/
def startBefore (d1 m1 d2 m2 : Nat) : Bool :=
  decide (d1 < d2) || (decide (d1 = d2) && decide (m1 < m2))

/-- Whether a dispatch block starts at or before the present minute of today (R59, R63). -/
def DispatchBlock.due (b : DispatchBlock) (minute : Nat) : Bool :=
  !startBefore 0 minute b.day b.start

/-- A block put at its place in the order, replacing one with the same start (R59, R60). -/
def insertBlock (b : DispatchBlock) : List DispatchBlock → List DispatchBlock
  | [] => [b]
  | x :: xs =>
    if x.day = b.day ∧ x.start = b.start then b :: xs
    else if startBefore b.day b.start x.day x.start then b :: x :: xs
    else x :: insertBlock b xs

/-- The effective turbine state (R66). -/
def TurbineRecord.effective (t : TurbineRecord) : TurbineState :=
  match t.silence with
  | .lost => .tripped
  | .reporting | .silent => t.reported

/-- The ceiling of the present inputs (R67). -/
def State.ceilingNow (s : State) : Nat :=
  match s.sched.turbine.effective with
  | .runUp | .onGrid => min s.config.plant.turbineMax s.sched.turbine.limit
  | .stopped | .tripped => 0

/-- The mode of the present inputs (R68). -/
def State.modeNow (s : State) : Mode :=
  if s.sched.active.isSome = true ∧ s.sched.turbine.effective = .onGrid then .powerLed else .steamLed

/-- The scheduler hands the allocator the admission demand char(E_r) (R30, R71). -/
def handDemand (s : State) : State :=
  { s with sched := { s.sched with handed := charLookup s.config.plant s.sched.ramped } }

/-- The scheduler decides ceiling and mode, and hands the allocator one notice when either changed (R65, R66, R67,
R68). In POWER_LED the notice carries the demand, the next one coming at the next minute step or at the next change of
ceiling or mode (R30). -/
def decideAdmission (s : State) : State :=
  let s' := { s with sched := { s.sched with ceiling := s.ceilingNow, mode := s.modeNow } }
  if s.sched.ceiling = s.ceilingNow ∧ s.sched.mode = s.modeNow then s'
  else recompute (if s.modeNow = .powerLed then handDemand s' else s')

/-- SCHEDULE_LOW: the clock valid, low_water above 0 and the pending count below it (R64). -/
def scheduleLow (s : State) : State :=
  setCondition .scheduleLow
    (s.time.clock.valid && decide (0 < s.config.plant.lowWater) &&
      decide (s.sched.queue.length < s.config.plant.lowWater)) s

/-- The day shift: tomorrow's blocks become today's (R63, stage 1). -/
def dayShift (q : List DispatchBlock) : List DispatchBlock :=
  q.map (fun b => if b.day = 1 then { b with day := 0 } else b)

/-- The takeover check and the block end (R63, stages 2 and 3). -/
def takeover (minute : Nat) (s : State) : State :=
  let due := s.sched.queue.filter (fun b => b.due minute)
  let rest := s.sched.queue.filter (fun b => !b.due minute)
  match due.getLast? with
  | some b =>
    scheduleLow (setFlag .blockTaken
      { s with sched := { s.sched with queue := rest, active := some ⟨b, b.duration⟩ } })
  | none =>
    match s.sched.active with
    | some ⟨b, some n⟩ =>
      let active := if n ≤ 1 then none else some (⟨b, some (n - 1)⟩ : ActiveBlock)
      { s with sched := { s.sched with active := active } }
    | _ => s

/-- One ramp step toward a target (R71). -/
def rampStep (er target limit : Nat) : Nat :=
  if er < target then min target (er + limit) else max target (er - limit)

/-- The minute step (R63): day shift, takeover check and block end, mode, ramp, and one notice to the allocator. -/
def minuteStep (s : State) : State :=
  let minute := s.time.clock.minute
  let s := if minute = 0 then { s with sched := { s.sched with queue := dayShift s.sched.queue } } else s
  let s := takeover minute s
  let before := s.sched.mode
  let s := { s with sched := { s.sched with mode := s.modeNow } }
  match s.sched.mode, s.sched.active with
  | .powerLed, some a =>
    recompute (handDemand { s with sched := { s.sched with
      ramped := rampStep s.sched.ramped a.block.exportTarget a.block.rampLimit } })
  | .powerLed, none => recompute s
  | .steamLed, _ => if before = .steamLed then s else recompute s

/-- A full clock set empties the queue and clears the active block; a change of mode runs the recomputation (R52,
R68). -/
def scheduleRestart (s : State) : State :=
  decideAdmission (scheduleLow { s with sched := { s.sched with queue := [], active := none } })

end Sys2Proof.Machine
end

