-- ==== Sys2Proof/Machine/Clock.lean ====
section
/-! DEFINITION. The clock's events and what their recipients do with them (chapter 3): closes, minute events,
full sets, trims and jumps. -/

namespace Sys2Proof.Machine

/-! ### Pulse counts handed on -/

/-- What the pacing generator array hands on at a block close (R56). -/
structure BlockCounts where
  steam : Nat
  nox : Nat
  acid : Nat
  deriving DecidableEq, Repr

/-- A line's counts of the closing block. -/
def State.blockCounts (s : State) (l : Line) : BlockCounts :=
  ⟨(s.counters.get l).blockCount, (s.gen l .nox).blockPulses, (s.gen l .acid).blockPulses⟩

/-- A line's block counts restart from 0 (R56, R113, R114). -/
def restartBlockCounts (l : Line) (s : State) : State :=
  let s := s.setCounter l { s.counters.get l with blockCount := 0 }
  let s := s.setGen l .nox { s.gen l .nox with blockPulses := 0 }
  s.setGen l .acid { s.gen l .acid with blockPulses := 0 }

/-- A line's minute count restarts from 0 (R56, R114). -/
def restartMinuteCount (l : Line) (s : State) : State :=
  s.setCounter l { s.counters.get l with minuteCount := 0 }

/-! ### The closes of one instant (R56, R57) -/

/-- The block index of the block closing at a minute (R56). -/
def closingIndex (minute : Nat) : Nat := (minute + 1430) % 1440 % 30 / 10

/-- The start of the half hour closing at a minute (R127). -/
def closingPeriod (minute : Nat) : Nat := (minute + 1410) % 1440

/-- What a block close sets going beyond the ledger (R56, R124). -/
inductive BlockTask where
  | throttle (l : Line)
  | trim (l : Line)
  | estimate (l : Line)
  deriving DecidableEq, Repr

/-- A task of a block close, on the results and counts handed. -/
def runBlockTask (results : PerLine (PerPollutant BlockStatus)) (counts : PerLine BlockCounts) :
    BlockTask → State → State
  | .throttle l, s => monitorBlockClose l (results.get l) s
  | .trim l, s => dosingBlockClose l (counts.get l).nox (counts.get l).acid (results.get l) s
  | .estimate l, s => estimatorBlockClose l (counts.get l).steam s

/-- The ledger closes the block of one line (R124). -/
def ledgerBlockClose (i : Nat) (l : Line) (s : State) : State :=
  s.setLedger l ((s.ledger.get l).closeBlock i)

/-- The period close of one line: the monitor evaluates, and the ledger writes its entries with the mark reported
(R127). -/
def periodCloseLine (start : Nat) (l : Line) (s : State) : State :=
  let channels := (s.ledger.get l).channels
  let r := PerPollutant.make (fun p => (channels.get p).periodResult (s.ledgerConfig l p).periodLimit)
  let mark := reportedOpen l r s
  let channels' := PerPollutant.make (fun p =>
    (channels.get p).closePeriod start (s.ledgerConfig l p).periodLimit mark)
  let s := evaluatePeriod l r s
  s.setLedger l { s.ledger.get l with channels := channels' }

/-- The period stage; the lines are independent (R126, R146). -/
def periodStage (minute : Nat) (s : State) : State :=
  forEachInAnyOrder s.fittedLines (periodCloseLine (closingPeriod minute)) s

/-- The period and day stages of a close at a minute (R57). -/
def laterStages (minute : Nat) (s : State) : State :=
  let s := if minute % 30 = 0 then periodStage minute s else s
  if minute = 0 then dayStage s else s

/-- The block stage and those after it. The throttle law, the trims and the estimates take the close independently;
the estimates, which no ledger stage waits for, may also come after the later stages (R57, R124; log 2). -/
def blockStages (minute : Nat) (s : State) : State :=
  let results : PerLine (PerPollutant BlockStatus) :=
    ⟨(s.ledger.get .a).results, (s.ledger.get .b).results, (s.ledger.get .c).results⟩
  let counts : PerLine BlockCounts := ⟨s.blockCounts .a, s.blockCounts .b, s.blockCounts .c⟩
  let s := forLines allLines restartBlockCounts s
  let s := forLines s.fittedLines (ledgerBlockClose (closingIndex minute)) s
  let early := s.nextTie.1
  let s := s.nextTie.2
  let ledgerTasks := s.fittedLines.map BlockTask.throttle ++ s.fittedLines.map BlockTask.trim
  let estimates := s.fittedLines.map BlockTask.estimate
  let s := forEachInAnyOrder (if early then ledgerTasks ++ estimates else ledgerTasks)
    (runBlockTask results counts) s
  let s := laterStages minute s
  if early then s else forEachInAnyOrder estimates (runBlockTask results counts) s

/-- The close of the instant the clock stands at: slot, and block, period and day where they fall on it (R57). -/
def closeInstant (s : State) : State :=
  let c := s.time.clock
  let s := slotStage s
  if c.second = 0 ∧ c.minute % 10 = 0 then blockStages c.minute s else s

/-! ### The minute event (R56) -/

/-- The measured steam of a line and its deviation count (R19, R20). -/
def registryMinuteLine (n : Nat) (l : Line) (s : State) : State :=
  let cfg := s.lineConfig l
  let r := s.line l
  let measured :=
    if (s.counters.get l).sensing then min 65535 (n * cfg.steamPulseQ * 60 / 100) else r.measured
  let dev :=
    if r.state = .connected ∧ cfg.devTol < distance measured (s.alloc.record.assigned.get l) then
      min 255 (r.deviation + 1)
    else 0
  setCondition (.steamDeviation l) (decide (cfg.devMinutes ≤ dev))
    (s.setLine l { r with measured := measured, deviation := dev })

/-- The registry takes a minute event with the pulse counts handed (R19, R20). -/
def registryMinute (n : PerLine Nat) (s : State) : State :=
  forLines s.fittedLines (fun l s => registryMinuteLine (n.get l) l s) s

/-- The line the release test takes: of the shed set, the earliest in the shedding order (R40). -/
def State.releaseCandidate (s : State) : Option Line :=
  s.config.plant.shedOrder.find? s.alloc.shed.get

/-- The release test passes for a line: the trial's bypass is at or below the threshold (R40). -/
def State.releasePasses (s : State) (l : Line) : Bool :=
  decide ((s.divide (s.connectedSet.set l true)).bypass ≤ s.config.plant.bypassMax * 8 / 10)

/-- SHED is removed from a line's reasons (R40). -/
def releaseShed (l : Line) (s : State) : State :=
  setReasons l { (s.line l).reasons with shed := false } true (setShed l false s)

/-- The allocator takes a minute event: the release test, and a recomputation, which a return to CONNECTED carries
(R40). -/
def allocatorMinute (s : State) : State :=
  match s.releaseCandidate with
  | some l =>
    if s.releasePasses l then
      let others := { (s.line l).reasons with shed := false }
      if others.isEmpty then releaseShed l s else recompute (releaseShed l s)
    else recompute s
  | none => recompute s

/-- The recipients of a minute event besides the pacing generator array. -/
inductive MinuteTask where
  | registry | allocator | scheduler
  deriving DecidableEq, Repr

/-- A recipient takes the minute event. -/
def runMinuteTask (n : PerLine Nat) : MinuteTask → State → State
  | .registry, s => registryMinute n s
  | .allocator, s => allocatorMinute s
  | .scheduler, s => minuteStep s

/-- The minute event of the instant the clock stands at; its recipients take it in any order (R20, R41, R57). -/
def minuteInstant (s : State) : State :=
  let n : PerLine Nat :=
    ⟨(s.counters.get .a).minuteCount, (s.counters.get .b).minuteCount, (s.counters.get .c).minuteCount⟩
  forEachInAnyOrder [.registry, .allocator, .scheduler] (runMinuteTask n)
    (forLines allLines restartMinuteCount s)

/-! ### Boundaries reached -/

/-- The clock stands on a slot boundary (R56). -/
def Clock.onSlot (c : Clock) : Bool := decide (c.hundredth = 0) && decide (c.second % 10 = 0)

/-- The clock stands on a minute boundary (R56). -/
def Clock.onMinute (c : Clock) : Bool := decide (c.hundredth = 0) && decide (c.second = 0)

/-- The boundaries the clock has just reached become due, while it is valid (R56; log 4). -/
def reachBoundary (s : State) : State :=
  let c := s.time.clock
  { s with time := { s.time with slotDue := c.valid && c.onSlot, minuteDue := c.valid && c.onMinute } }

/-- A due close is taken. -/
def takeClose (s : State) : State :=
  closeInstant { s with time := { s.time with slotDue := false } }

/-- A due minute event is taken. -/
def takeMinute (s : State) : State :=
  minuteInstant { s with time := { s.time with minuteDue := false } }

/-- The events due are taken, close and minute event in any order (R57). -/
def takeDue (s : State) : State :=
  match s.time.slotDue, s.time.minuteDue with
  | true, true =>
    if s.nextTie.1 then takeMinute (takeClose s.nextTie.2) else takeClose (takeMinute s.nextTie.2)
  | true, false => takeClose s
  | false, true => takeMinute s
  | false, false => s

/-! ### The running clock -/

/-- The time of day in ticks, 0..8,639,999 (R53). -/
def Clock.ticks (c : Clock) : Nat := (c.minute * 60 + c.second) * 100 + c.hundredth

/-- The clock at a time of day in ticks, taken modulo one day. -/
def Clock.at (c : Clock) (t : Nat) : Clock :=
  { c with minute := t / 6000 % 1440, second := t / 100 % 60, hundredth := t % 100 }

/-- The clock moves forward by some ticks. -/
def moveClock (n : Nat) (s : State) : State :=
  s.setClock (s.time.clock.at (s.time.clock.ticks + n))

/-- A forward jump by `n` ticks: each boundary passed is taken in order (R54). The fuel bounds the slot boundaries
passed; a jump of at most 3000 ticks passes at most three. -/
def jump : Nat → Nat → State → State
  | 0, n, s => moveClock n s
  | fuel + 1, n, s =>
    let toNext := 1000 - s.time.clock.ticks % 1000
    if toNext ≤ n then jump fuel (n - toNext) (takeDue (reachBoundary (moveClock toNext s)))
    else moveClock n s

/-! ### Setting the clock -/

/-- The time-aligned counts of a line restart: pulse counts and the current-block entry of the ring (R52). -/
def restartLine (l : Line) (s : State) : State :=
  let s := restartMinuteCount l (restartBlockCounts l s)
  s.setFeed l { s.feed.get l with strokes := 0, mass := 0 }

/-- A full set to a count of seconds (R52). -/
def fullSet (secs : Nat) (s : State) : State :=
  let s := s.setClock ⟨secs / 60, secs % 60, 0, true, 0⟩
  let s := setCondition .clockInvalid false s
  let s := ledgerRestart (secs / 60) s
  scheduleRestart (forLines allLines restartLine s)

/-- The difference of a trim: the requested time less the reckoned time, by its short way round (R53). -/
def trimDifference (secs : Nat) (c : Clock) : Int :=
  ((secs * 100 : Nat) - ((c.ticks : Int) - c.hold) + 4320000) % 8640000 - 4320000

/-- Whether a trim by `d` is refused (R53). -/
def trimRefused (d : Int) (c : Clock) : Bool :=
  decide (3000 < d.natAbs) || (decide (d < 0) && decide (3000 < c.hold + d.natAbs))

/-- A trim by `d` (R53, R54). -/
def trim (d : Int) (s : State) : State :=
  let c := s.time.clock
  if d ≤ c.hold then s.setClock { c with hold := (c.hold - d).toNat }
  else jump 4 (d - c.hold).toNat (s.setClock { c with hold := 0 })

end Sys2Proof.Machine
end

