-- ==== Sys2Proof/Machine/Reads.lean ====
section
/-! DEFINITION. What the read kinds answer: payload layouts (12.5), snapshots and parts (R184). A layout the spec
leaves to "the fewest whole bytes" is log 8; a place with no value is filled with free bytes, log 3. -/

namespace Sys2Proof.Machine

/-! ### Payloads with free places -/

/-- A stretch of a payload: bytes the rules give, or a number of free bytes (log 3). -/
inductive Piece where
  | bytes (b : List Byte)
  | free (n : Nat)
  deriving DecidableEq, Repr

/-- How many free bytes a payload takes. -/
def freeNeeded : List Piece → Nat
  | [] => 0
  | .bytes _ :: rest => freeNeeded rest
  | .free n :: rest => n + freeNeeded rest

/-- The payload, its free places filled with the free bytes from number `k` on. -/
def render (k : Nat) : List Piece → List Byte
  | [] => []
  | .bytes b :: rest => b ++ render k rest
  | .free n :: rest => (List.range n).map (fun i => Config.freeByte (k + i)) ++ render (k + n) rest

/-- An answer whose payload may have free places. -/
def replyWith (s : State) (c : Code) (ps : List Piece) : Reply :=
  ⟨s.useFreeBytes (freeNeeded ps), c, render s.freeCount ps⟩

/-! ### LINE_READ (R16, R91, R151) -/

/-- The place of a line in a queue, 1 for the head, 0 when it is not in it. -/
def placeIn (l : Line) : List Line → Nat
  | [] => 0
  | x :: xs => if x = l then 1 else if placeIn l xs = 0 then 0 else placeIn l xs + 1

/-- The seconds left on the connect timer, rounded up, while the line is CONNECTING (R16). -/
def State.connectSeconds (s : State) (l : Line) : Option Nat :=
  match s.registry.slot with
  | some slot => if slot.line = l then some ((slot.timeout - s.elapsed slot.grantTick + 99) / 100) else none
  | none => none

/-- LINE_READ part 0, 34 bytes (12.5). -/
def lineRead0 (s : State) (l : Line) : List Byte :=
  let r := s.line l
  let m := s.monitor.get l
  let cfg := s.lineConfig l
  u8 r.state.code ++
  u8 (bitsValue [r.reasons.requested, r.reasons.shed, r.reasons.jam, s.configured l, m.lockout,
    s.registry.header.stale, m.budgetLoaded]) ++
  orAbsent8 (r.returnTo.map ReturnState.code) ++
  u16 (s.alloc.record.assigned.get l) ++ u16 r.measured ++ u8 r.deviation ++ u16 r.startupRequest ++
  u8 (placeIn l s.registry.queue) ++ orAbsent16 (s.connectSeconds l) ++
  u16 s.registry.header.pressure ++ s16 s.registry.header.riseRate ++ u32 s.now.toNat ++
  u16 m.throttle ++ u16 cfg.throttleFloor ++ u8 (markValue m.episodeOpen) ++ u16 m.length ++
  u8 m.compliant ++ u8 m.evaluation.code ++ u16 m.budgetUsed ++ u16 cfg.allowance

/-- The clamp states, two bits each, FEED lowest (12.5). -/
def clampByte (c : PerStroke ClampState) : Nat :=
  c.feed.code + 4 * c.z1.code + 16 * c.z2.code + 64 * c.z3.code

/-- LINE_READ part 1, 42 bytes (12.5). -/
def lineRead1 (s : State) (l : Line) : List Byte :=
  let r := s.feed.get l
  u16 r.m4 ++ u24 r.m1 ++ u8 (bitsValue [r.capped, r.throttled, r.raised, r.held]) ++
  u16 (r.reference.getD 0) ++ periodField r.periods.feed ++ periodField r.periods.z1 ++
  periodField r.periods.z2 ++ periodField r.periods.z3 ++ u8 (clampByte r.clamps) ++ u24 r.paced ++
  u16 r.lhv ++ u16 r.strokes ++ u24 r.mass ++ u24 r.massPrev ++ u24 r.massPrev2 ++ u16 r.blockSteam ++
  u16 (r.blockValue.getD 0) ++ u8 r.outcome.code

/-! ### GENERATOR_READ (R115) -/

/-- A generator's buffer in three bytes: 0 for none, FFFFFFh for empty (R183). -/
def Buffer.field : Buffer → List Byte
  | .empty => u24 0xFFFFFF
  | .none => u24 0
  | .period q => u24 q

/-- A last fault: kind, time of day, valid mark; all 0 when absent (R183). -/
def lastFaultField : Option LastFault → List Byte
  | none => u8 0 ++ u16 0 ++ u8 0 ++ u8 0 ++ u8 0
  | some x => u8 x.kind.code ++ u16 x.minute ++ u8 x.second ++ u8 x.hundredth ++ u8 (markValue x.valid)

/-- The fields that both kinds of generator hold before the counts (R94). -/
def genHead (g : GenRecord) : List Byte :=
  u8 g.run.code ++ u8 g.source.code ++ u8 (markValue g.configured) ++ periodField g.current ++
  g.buffer.field ++ u16 (g.countdown.getD 0) ++ u8 g.trimAcc ++ u8 g.phase.code ++
  u8 (markValue g.pending) ++ u32 g.activeSince.toNat

/-- GENERATOR_READ part 0: the record in the order of R94, with the fields of the generator's kind (log 8). -/
def generatorRead0 (g : GenRecord) (stroke : Bool) : List Byte :=
  if stroke then
    genHead g ++ u16 g.limitMin ++ u16 g.limitMax ++ u8 g.consecutive ++ u32 g.completed.toNat ++
    u16 g.aborted.toNat ++ u16 g.overrun.toNat ++ u16 g.early.toNat ++ u16 g.late.toNat ++
    u16 g.stray.toNat ++ orAbsent16 g.lastDuration ++ lastFaultField g.lastFault
  else
    genHead g ++ u32 g.completed.toNat ++ u16 g.aborted.toNat ++ u16 g.overrun.toNat ++ u16 g.blockPulses

/-- The sensed level of an input: low 0, high 1, FFh when it is not sensed (log 8). -/
def levelField (sensed high : Bool) : List Byte :=
  if sensed then u8 (markValue high) else u8 0xFF

/-- The GENERATOR parameters of a generator's kind, in ascending order of number (log 8). -/
def generatorParamsField (c : GenConfig) : Gen → List Byte
  | .feed => u16 c.periodMin ++ u16 c.periodMax ++ u16 c.strokeMin ++ u16 c.strokeMax ++ u8 (edgeCode c.completeEdge)
  | .z1 | .z2 | .z3 =>
    u16 c.periodMin ++ u16 c.periodMax ++ u16 c.strokeMin ++ u16 c.strokeMax ++ u8 (edgeCode c.completeEdge) ++
      u16 c.zoneRatio
  | .nox | .acid => u16 c.periodMin ++ u16 c.periodMax ++ u8 c.pulseWidth

/-- GENERATOR_READ part 1: output level, for a stroke generator the sensed level and the ticks elapsed in flight, and
the parameters. The elapsed ticks read FFFFh with no stroke in flight, where the spec names no code (DESIGN CHOICE,
log 8). -/
def generatorRead1 (s : State) (l : Line) (k : Gen) : List Byte :=
  let g := s.gen l k
  u8 g.phase.code ++
  (match asStroke k with
    | some sg =>
      levelField (s.senses l sg) ((s.pins.strokeComplete.get l).get sg) ++
        orAbsent16 (if g.phase = .active then some (s.elapsed g.activeSince) else none)
    | none => []) ++
  generatorParamsField (s.genConfig l k) k

/-- GENERATOR_READ of number 7, part 0: sensing mark, edge and the three counts (log 8). -/
def counterRead0 (c : SteamCounter) : List Byte :=
  u8 (markValue c.sensing) ++ u8 (edgeCode c.edge) ++ u16 c.minuteCount ++ u16 c.blockCount ++ u32 c.total.toNat

/-- GENERATOR_READ of number 7, part 1: the sensed level of the steam input (log 8). -/
def counterRead1 (s : State) (l : Line) : List Byte :=
  levelField (s.counters.get l).sensing (s.pins.steam.get l)

/-! ### LEDGER_READ (R134) -/

/-- A mean where there is one, else two free bytes. -/
def meanPiece : Option Nat → Piece
  | some m => .bytes (u16 m)
  | none => .free 2

/-- The mean of a VALID period or day. -/
def MeanStatus.mean? : MeanStatus → Option Nat
  | .valid m => some m
  | .idle | .invalid => none

/-- The slot store as LEDGER_READ shows it for a pollutant. -/
def storePieces (st : Option StoredSample) (p : Pollutant) : List Piece :=
  match st with
  | none => [.bytes (u8 0), .free 3]
  | some x => [.bytes (u8 1), meanPiece (x.values.get p), .bytes (u8 (markValue (x.values.get p).isSome))]

/-- An entry of the current-period block record. -/
def blockPieces (e : BlockEntry) : List Piece :=
  [.bytes (u8 e.status.code), meanPiece e.status.mean?, .bytes (u8 e.nOp ++ u8 e.v)]

/-- The running day mean (R130). -/
def DayAcc.runningMean (d : DayAcc) : Option Nat :=
  if 0 < d.valid then some (d.sum / d.valid) else none

/-- The last-day record, with status FFh when it is absent (log 8). -/
def lastDayPieces : Option DayRecord → List Piece
  | none => [.bytes (u8 0xFF), .free 8]
  | some d =>
    [.bytes (u8 d.status.code), meanPiece d.status.mean?,
     .bytes (u8 (markValue d.exceeded) ++ u8 d.valid ++ u8 d.invalid ++ u8 d.idle ++ u16 d.start)]

/-- LEDGER_READ part 0: every item before the history (log 8). -/
def ledgerRead0 (r : LedgerLine) (p : Pollutant) : List Piece :=
  let ch := r.channels.get p
  [.bytes (u8 r.nOp ++ u24 ch.sum ++ u8 ch.count)] ++ storePieces r.store p ++
  blockPieces ch.block0 ++ blockPieces ch.block1 ++ blockPieces ch.block2 ++
  [.bytes (u24 ch.day.sum ++ u8 ch.day.valid ++ u8 ch.day.invalid ++ u8 ch.day.idle ++ u16 ch.day.start),
   .bytes (u8 (markValue ch.day.runningMean.isSome)), meanPiece ch.day.runningMean] ++
  lastDayPieces ch.lastDay

/-- The marks of a history entry (R184 lists them), from bit 0 upward in the order listed: day marker in bit 0, status in
bits 1 and 2, exceeded in bit 3, episode-open in bit 4, valid blocks in bits 5 and 6. The bit places are the model's
(DESIGN CHOICE, log 8). -/
def HistoryEntry.marks (e : HistoryEntry) : Nat :=
  markValue e.yesterday + 2 * e.status.code + 8 * markValue e.exceeded + 16 * markValue e.episodeOpen +
    32 * e.validBlocks

/-- A history entry, five bytes (R184): start minute, marks, mean. -/
def historyPieces (e : HistoryEntry) : List Piece :=
  [.bytes (u16 e.start ++ u8 e.marks), meanPiece e.status.mean?]

/-- LEDGER_READ part 1: the history count and at most eight entries from the start index (R134, R184). -/
def ledgerRead1 (r : LedgerLine) (p : Pollutant) (start : Nat) : List Piece :=
  let h := (r.channels.get p).history
  .bytes (u8 h.length) :: (((h.drop start).take 8).map historyPieces).flatten

/-! ### DOSING_READ (R162) -/

/-- The record of a dosing channel in the order of R153 (log 8). -/
def doseField (r : DosingRecord) : List Byte :=
  u8 r.mode.code ++ u24 r.overrideRate ++ s16 r.trim ++ u24 r.ff ++ u24 r.rate ++ periodField r.period ++
  u24 r.paced ++ u8 r.limits.code ++ orAbsentS24 r.lastError ++ u8 r.trimOutcome.code ++ u32 r.lastDose

/-- The DOSING parameters of a channel in ascending order of number (log 8). -/
def dosingParamsField (c : DosingConfig) : Channel → List Byte
  | .nox =>
    u16 c.kFf ++ u16 c.pulseG ++ u24 c.rateMax ++ u16 c.setpoint ++ u16 c.kt ++ s16 c.trimLo ++ s16 c.trimHi
  | .acid =>
    u16 c.kFf ++ u16 c.pulseG ++ u24 c.rateMax ++ u16 c.setpointSo2 ++ u16 c.setpointHcl ++ u16 c.kt ++
      s16 c.trimLo ++ s16 c.trimHi

/-- One part of DOSING_READ: line state, reference feed and one channel (R184). An absent reference feed reads 0 in its two
bytes, as 12.5 has it for LINE_READ (DESIGN CHOICE, log 8). -/
def dosingReadPart (s : State) (l : Line) (c : Channel) : List Byte :=
  u8 (s.lineState l).code ++ u16 ((s.feed.get l).reference.getD 0) ++ doseField (s.dose l c) ++
    dosingParamsField (s.dosingConfig l c) c

/-! ### SCHEDULE_READ and DISPATCH_READ (R62, R47, R73) -/

/-- A pending dispatch block, eight bytes. -/
def blockField (b : DispatchBlock) : List Byte :=
  u8 b.day ++ u16 b.start ++ u16 b.exportTarget ++ u8 b.rampLimit ++ orAbsent16 b.duration

/-- The active dispatch block: present mark, start, target, ramp limit, duration, minutes remaining, as 12.5 has it for
DISPATCH_READ. SCHEDULE_READ takes the same bytes, without the block's day offset (R59, R62; DESIGN CHOICE, log 8). -/
def activePieces : Option ActiveBlock → List Piece
  | none => [.bytes (u8 0), .free 5, .bytes (orAbsent16 none ++ orAbsent16 none)]
  | some a =>
    [.bytes (u8 1 ++ u16 a.block.start ++ u16 a.block.exportTarget ++ u8 a.block.rampLimit ++
      orAbsent16 a.block.duration ++ orAbsent16 a.remaining)]

/-- SCHEDULE_READ part 0 (log 8). -/
def scheduleRead0 (s : State) (start : Nat) : List Piece :=
  [.bytes (u8 s.sched.queue.length)] ++ activePieces s.sched.active ++
  [.bytes (u16 s.sched.ramped ++ (((s.sched.queue.drop start).take 4).map blockField).flatten)]

/-- SCHEDULE_READ part 1: the next four blocks (R184). -/
def scheduleRead1 (s : State) (start : Nat) : List Piece :=
  [.bytes (((s.sched.queue.drop (start + 4)).take 4).map blockField).flatten]

/-- The last admission demand handed, or 0 in STEAM_LED (R73). R72's pull-back of E_r hands none, so it stands
(DEDUCED, log 10). -/
def State.lastDemand (s : State) : Nat :=
  match s.sched.mode with
  | .powerLed => s.sched.handed
  | .steamLed => 0

/-- The clock items: minute-of-day, seconds, tick, valid mark, hold remaining (R50). -/
def clockField (c : Clock) : List Byte :=
  u16 c.minute ++ u8 c.second ++ u8 c.hundredth ++ u8 (markValue c.valid) ++ u16 c.hold

/-- DISPATCH_READ, 48 bytes (12.5). -/
def dispatchPieces (s : State) : List Piece :=
  let r := s.alloc.record
  let t := s.sched.turbine
  [.bytes (u16 r.assigned.a ++ u16 r.assigned.b ++ u16 r.assigned.c ++ u16 r.target ++ u16 r.bypass ++
    u16 r.served ++ u8 r.mode.code ++
    u8 (bitsValue [r.shortfall, s.alloc.shed.a, s.alloc.shed.b, s.alloc.shed.c]) ++
    u16 r.revision.toNat ++ u16 s.alloc.aux ++ u8 s.sched.mode.code ++ u16 s.sched.ramped ++
    u16 s.lastDemand ++ u16 s.sched.ceiling ++ u8 t.reported.code ++ u16 t.limit ++ u8 t.effective.code ++
    u8 t.silence.code)] ++
  activePieces s.sched.active ++
  [.bytes (u8 s.sched.queue.length ++ clockField s.time.clock)]

/-! ### Parts and snapshots (R184) -/

/-- Hold a snapshot for a station. -/
def holdSnapshot (st : Station) (x : Snapshot) (s : State) : State :=
  s.setBus { s.bus with snapshots := s.bus.snapshots.set st (some x) }

/-- A read in two parts: part 0 takes and holds a snapshot, part 1 is answered from a snapshot of the same kind that
names the same, a part number above 1 is refused (R184). The free places of both parts are filled as it is taken. -/
def readParts (k : Kind) (names : List Nat) (st : Station) (part : Nat) (p0 p1 : List Piece) (s : State) : Reply :=
  match part with
  | 0 =>
    let b0 := render s.freeCount p0
    let b1 := render (s.freeCount + freeNeeded p0) p1
    ⟨holdSnapshot st ⟨k, names, b0, b1⟩ (s.useFreeBytes (freeNeeded p0 + freeNeeded p1)), .accepted, b0⟩
  | 1 =>
    match s.bus.snapshots.get st with
    | some x => if x.kind = k ∧ x.names = names then ⟨s, .accepted, x.part1⟩ else ⟨s, .badState, []⟩
    | none => ⟨s, .badState, []⟩
  | _ => ⟨s, .badValue, []⟩

end Sys2Proof.Machine
end

