-- ==== Sys2Proof/Machine/CleaningRequests.lean ====
section
/-! DEFINITION. The cleaning controller's requests: samples, dosing and the reads of both (R118, R134, R156, R157,
R162). -/

namespace Sys2Proof.Machine

/-! ### SAMPLE (R118) -/

/-- The place of a pollutant in the order CO to TOC (12.4). -/
def pollutantIndex : Pollutant → Nat
  | .co => 0
  | .nox => 1
  | .so2 => 2
  | .hcl => 3
  | .dust => 4
  | .toc => 5

/-- The concentrations of a SAMPLE payload, `none` where the validity byte marks one invalid (12.4). -/
def sampleValues (p : List Byte) : PerPollutant (Option Nat) :=
  PerPollutant.make (fun k =>
    if bitAt (byteAt p 14) (pollutantIndex k) then some (word16 p (2 + 2 * pollutantIndex k)) else none)

/-- The sample a payload stores (R120). -/
def sampleOf (oRef : Nat) (p : List Byte) : StoredSample :=
  storedSample oRef (word16 p 0) (bitAt (byteAt p 14) 6) (sampleValues p)

/-- SAMPLE at the emission ledger (R118). The disposition of a refused sample and the sample-invalid mark of one not
stored have no value (log 3). -/
def ownSample (l : Line) (p : List Byte) (s : State) : Reply :=
  let r := s.ledger.get l
  if 2100 < word16 p 0 then replyWith s .badValue [.free 2, .bytes (u8 r.nOp)]
  else if s.lineState l = .offline then replyWith s .accepted [.bytes (u8 0), .free 1, .bytes (u8 r.nOp)]
  else
    let x := sampleOf s.config.plant.oRef p
    ⟨s.setLedger l { r with store := some x },
      if r.store.isSome then .acceptedReplaced else .accepted,
      u8 (if r.store.isSome then 2 else 1) ++ u8 (markValue x.invalid) ++ u8 r.nOp⟩

/-! ### Dosing (R156, R157) -/

/-- The answer of DOSE_OVERRIDE and DOSE_AUTO: mode, override rate, rate, line state (12.5). -/
def doseReply (l : Line) (c : Channel) (code : Code) (s : State) : Reply :=
  ⟨s, code, u8 (s.dose l c).mode.code ++ u24 (s.dose l c).overrideRate ++ u24 (s.dose l c).rate ++
    u8 (s.lineState l).code⟩

/-- The answer when no channel is named: its places but the line state are free (log 3). -/
def noChannel (l : Line) (s : State) : Reply :=
  replyWith s .badValue [.free 7, .bytes (u8 (s.lineState l).code)]

/-- DOSE_OVERRIDE at the dosing computation (R156). -/
def ownDoseOverride (l : Line) (code rate : Nat) (s : State) : Reply :=
  match channelOfCode code with
  | none => noChannel l s
  | some c =>
    let most := (s.dosingConfig l c).rateMax
    let r : DosingRecord := { s.dose l c with mode := .override, overrideRate := min rate most }
    doseReply l c (if most < rate then .acceptedClamped else .accepted) (doseCompute l c (s.setDose l c r))

/-- DOSE_AUTO at the dosing computation (R157). -/
def ownDoseAuto (l : Line) (code : Nat) (s : State) : Reply :=
  match channelOfCode code with
  | none => noChannel l s
  | some c =>
    let r : DosingRecord := { s.dose l c with mode := .auto }
    doseReply l c .accepted (doseCompute l c (s.setDose l c r))

/-! ### Reads -/

/-- DOSING_READ (R162). -/
def ownDosingRead (st : Station) (l : Line) (part : Nat) (s : State) : Reply :=
  readParts .dosingRead [lineNumber l] st part [.bytes (dosingReadPart s l .nox)]
    [.bytes (dosingReadPart s l .acid)] s

/-- LEDGER_READ (R134). -/
def ownLedgerRead (st : Station) (l : Line) (code start part : Nat) (s : State) : Reply :=
  match pollutantOfCode code with
  | none => ⟨s, .badValue, []⟩
  | some p =>
    if 47 < start then ⟨s, .badValue, []⟩
    else
      readParts .ledgerRead [lineNumber l, code, start] st part (ledgerRead0 (s.ledger.get l) p)
        (ledgerRead1 (s.ledger.get l) p start) s

/-- SAMPLE (R118). -/
def execSample (f : Frame) (s : State) : Host.Outcome State Fault Refusal :=
  .next (request .sample f (fun _ l s => ownSample l f.payload s) s)

/-- DOSE_OVERRIDE (R156). -/
def execDoseOverride (f : Frame) (s : State) : Host.Outcome State Fault Refusal :=
  .next (request .doseOverride f
    (fun _ l s => ownDoseOverride l (byteAt f.payload 0) (word24 f.payload 1) s) s)

/-- DOSE_AUTO (R157). -/
def execDoseAuto (f : Frame) (s : State) : Host.Outcome State Fault Refusal :=
  .next (request .doseAuto f (fun _ l s => ownDoseAuto l (byteAt f.payload 0) s) s)

/-- DOSING_READ (R162, R184). -/
def execDosingRead (f : Frame) (s : State) : Host.Outcome State Fault Refusal :=
  .next (request .dosingRead f (fun st l s => ownDosingRead st l (byteAt f.payload 0) s) s)

/-- LEDGER_READ (R134, R184). -/
def execLedgerRead (f : Frame) (s : State) : Host.Outcome State Fault Refusal :=
  .next (request .ledgerRead f
    (fun st l s => ownLedgerRead st l (byteAt f.payload 0) (byteAt f.payload 1) (byteAt f.payload 2) s) s)

end Sys2Proof.Machine
end

