-- ==== Sys2Proof/Machine/FieldEvents.lean ====
section
/-! DEFINITION. Events on the field inputs and of the pacing generators (R100 to R109, R113, R114). An event that has not
come about in the present state changes nothing (log 4). -/

namespace Sys2Proof.Machine

/-- The level of a stroke-complete input moved (00_scope 6). -/
def moveStrokeInput (l : Line) (g : StrokeGen) (e : Edge) (s : State) : State :=
  { s with pins := { s.pins with
    strokeComplete := s.pins.strokeComplete.set l ((s.pins.strokeComplete.get l).set g (decide (e = .rising))) } }

/-- The level of a steam input moved (00_scope 6). -/
def moveSteamInput (l : Line) (e : Edge) (s : State) : State :=
  { s with pins := { s.pins with steam := s.pins.steam.set l (decide (e = .rising)) } }

/-- A stroke fault of a generator reaches the line's controller, and a jam the line registry (R107, R109, R10). -/
def strokeFaulted (l : Line) (k : Gen) (s : State) : State :=
  let s := setFlag (.strokeFault l) s
  if (s.gen l k).run = .fault then jamHold l (setCondition (.jam l) true s) else s

/-- The stroke in flight ends with a fault (R107). -/
def endFaulted (l : Line) (g : StrokeGen) (kind : FaultKind) (d : Nat) (s : State) : State :=
  let k := strokeGen g
  strokeFaulted l k
    (s.setGen l k ((s.gen l k).faultStroke kind d s.time.clock s.now (s.genConfig l k)))

/-- The stroke in flight completes, a feeder stroke with its report (R105, R87). -/
def endCompleted (l : Line) (g : StrokeGen) (d : Nat) (s : State) : State :=
  let k := strokeGen g
  let s := s.setGen l k ((s.gen l k).complete d s.now (s.genConfig l k))
  if g = .feed then strokeReported l s else s

/-- A selected edge on a sensed stroke-complete input (R105, R108). -/
def selectedEdge (l : Line) (g : StrokeGen) (s : State) : State :=
  let r := s.gen l (strokeGen g)
  let d := s.elapsed r.activeSince
  match r.phase with
  | .rest => setFlag (.strokeFault l) (s.setGen l (strokeGen g) (r.strayEdge s.time.clock))
  | .active => if d < r.limitMin then endFaulted l g .early d s else endCompleted l g d s

/-- Whether an edge is of the kind a generator's input is sensed on (R93, R105). -/
def State.selects (s : State) (l : Line) (g : StrokeGen) (e : Edge) : Bool :=
  s.senses l g && decide (e = (s.genConfig l (strokeGen g)).completeEdge)

/-- STROKE_COMPLETE_EDGE (R105). -/
def execStrokeCompleteEdge (l : Line) (g : StrokeGen) (e : Edge) (s : State) : Host.Outcome State Fault Refusal :=
  .next
    (let s' := moveStrokeInput l g e s
    if s.pins.resetLow = false ∧ s.selects l g e = true then selectedEdge l g s' else s')

/-- The stroke in flight has lasted stroke_max ticks (R106). -/
def State.strokeLapsed (s : State) (l : Line) (g : StrokeGen) : Bool :=
  let r := s.gen l (strokeGen g)
  decide (r.phase = .active) && decide (r.limitMax ≤ s.elapsed r.activeSince)

/-- STROKE_MAX_LAPSE (R106): LATE, with the duration captured as stroke_max. -/
def execStrokeMaxLapse (l : Line) (g : StrokeGen) (s : State) : Host.Outcome State Fault Refusal :=
  .next
    (if s.strokeLapsed l g then endFaulted l g .late (s.gen l (strokeGen g)).limitMax s else s)

/-- The pulse in flight has lasted pulse_width ticks (R113). -/
def State.pulseLapsed (s : State) (l : Line) (c : Channel) : Bool :=
  let r := s.gen l (channelGen c)
  decide (r.phase = .active) && decide ((s.genConfig l (channelGen c)).pulseWidth ≤ s.elapsed r.activeSince)

/-- PULSE_COMPLETE (R113). -/
def execPulseComplete (l : Line) (c : Channel) (s : State) : Host.Outcome State Fault Refusal :=
  .next
    (if s.pulseLapsed l c then
      s.setGen l (channelGen c) ((s.gen l (channelGen c)).completePulse s.now (s.genConfig l (channelGen c)))
    else s)

/-- The countdown of a running generator falls to 0 with the present tick (R100). -/
def State.expires (s : State) (l : Line) (k : Gen) : Bool :=
  decide ((s.gen l k).run = .running) && decide ((s.gen l k).countdown = some 1)

/-- COUNTDOWN_EXPIRY (R100, R101). -/
def execCountdownExpiry (l : Line) (k : Gen) (s : State) : Host.Outcome State Fault Refusal :=
  .next
    (if s.expires l k then
      let g := s.gen l k
      let s' := s.setGen l k (g.expire (asStroke k).isSome s.now (s.genConfig l k))
      if g.overruns then setFlag (.overrun l) s' else s'
    else s)

/-- A counter with one more pulse; the minute and block counts stop at 65535 (R114). -/
def SteamCounter.pulse (c : SteamCounter) : SteamCounter :=
  { c with
    minuteCount := min 65535 (c.minuteCount + 1)
    blockCount := min 65535 (c.blockCount + 1)
    total := c.total + 1 }

/-- STEAM_PULSE (R114). -/
def execSteamPulse (l : Line) (e : Edge) (s : State) : Host.Outcome State Fault Refusal :=
  .next
    (let c := s.counters.get l
    let s' := moveSteamInput l e s
    if s.pins.resetLow = false ∧ c.sensing = true ∧ e = c.edge then s'.setCounter l c.pulse else s')

end Sys2Proof.Machine
end

