-- ==== Sys2Proof/Machine/FlagRequests.lean ====
section
/-! DEFINITION. The requests about a station's own flags and notify line (R178, R179, R180). -/

namespace Sys2Proof.Machine

/-- FLAGS_READ at the station flag unit (R178). -/
def ownFlagsRead (st : Station) (s : State) : Reply :=
  let u := s.flags.get st
  ⟨s.setFlagUnit st u.afterRead, .accepted,
    u16 u.flags.toNat ++ u16 u.afterRead.flags.toNat ++ u16 u.mask.toNat ++ u8 u.mode.code ++ u8 u.polarity.code⟩

/-- MASK_WRITE at the station flag unit (R179). -/
def ownMaskWrite (st : Station) (mask : Nat) (s : State) : Reply :=
  let u := (s.flags.get st).withMask st (BitVec.ofNat 16 mask)
  ⟨s.setFlagUnit st u, .accepted, u16 u.mask.toNat ++ u16 u.flags.toNat⟩

/-- The answer of NOTIFY_MODE: mode, polarity, flag set (12.5). -/
def notifyReply (st : Station) (c : Code) (s : State) : Reply :=
  let u := s.flags.get st
  ⟨s, c, u8 u.mode.code ++ u8 u.polarity.code ++ u16 u.flags.toNat⟩

/-- NOTIFY_MODE at the station flag unit (R180). -/
def ownNotifyMode (st : Station) (mode polarity : Nat) (s : State) : Reply :=
  match notifyModeOfCode mode, polarityOfCode polarity with
  | some m, some p => notifyReply st .accepted (s.setFlagUnit st ((s.flags.get st).withMode m p))
  | _, _ => notifyReply st .badValue s

/-- FLAGS_READ (R178). -/
def execFlagsRead (f : Frame) (s : State) : Host.Outcome State Fault Refusal :=
  .next (request .flagsRead f (fun st _ s => ownFlagsRead st s) s)

/-- MASK_WRITE (R179). -/
def execMaskWrite (f : Frame) (s : State) : Host.Outcome State Fault Refusal :=
  .next (request .maskWrite f (fun st _ s => ownMaskWrite st (word16 f.payload 0) s) s)

/-- NOTIFY_MODE (R180). -/
def execNotifyMode (f : Frame) (s : State) : Host.Outcome State Fault Refusal :=
  .next (request .notifyMode f
    (fun st _ s => ownNotifyMode st (byteAt f.payload 0) (byteAt f.payload 1) s) s)

end Sys2Proof.Machine
end

