-- ==== Sys2Proof/Machine/GeneratorRequests.lean ====
section
/-! DEFINITION. The requests about single generators (R110, R111, R112, R115). -/

namespace Sys2Proof.Machine

/-- The answer of SOURCE_SELECT: source and run state (12.5). -/
def sourceReply (l : Line) (k : Gen) (c : Code) (s : State) : Reply :=
  ⟨s, c, u8 (s.gen l k).source.code ++ u8 (s.gen l k).run.code⟩

/-- SOURCE_SELECT at the generator array (R111). With no generator named the answer's places are free (log 3). -/
def ownSourceSelect (l : Line) (number code : Nat) (s : State) : Reply :=
  match genOfNumber number with
  | none => replyWith s .badValue [.free 2]
  | some k =>
    match sourceOfCode code with
    | none => sourceReply l k .badValue s
    | some src => sourceReply l k .accepted (s.setGen l k ((s.gen l k).selectSource k (s.lineState l) src))

/-- Whether the line's state lets a manual stroke of a generator start (R112). -/
def manualAllowed (k : Gen) (st : LineState) : Bool :=
  match k with
  | .feed => st.feeding
  | .z1 | .z2 | .z3 => decide (st ≠ .tripped)
  | .nox | .acid => st.doses

/-- The answer of MANUAL_STROKE: output phase and completed count (12.5). -/
def manualReply (l : Line) (k : Gen) (c : Code) (s : State) : Reply :=
  ⟨s, c, u8 (s.gen l k).phase.code ++ u32 (s.gen l k).completed.toNat⟩

/-- MANUAL_STROKE at the generator array (R112). -/
def ownManualStroke (l : Line) (number : Nat) (s : State) : Reply :=
  match genOfNumber number with
  | none => replyWith s .badValue [.free 5]
  | some k =>
    let g := s.gen l k
    if g.configured = false then manualReply l k .notConfigured s
    else if g.source = .auto then manualReply l k .badState s
    else if g.run = .fault then manualReply l k .badState s
    else if manualAllowed k (s.lineState l) = false then manualReply l k .badState s
    else if g.phase = .active then manualReply l k .busy s
    else
      manualReply l k .accepted (s.setGen l k (g.startStroke (asStroke k).isSome s.now (s.genConfig l k)))

/-- The answer of FAULT_CLEAR: run state and line state (12.5). -/
def faultClearReply (l : Line) (k : Gen) (c : Code) (s : State) : Reply :=
  ⟨s, c, u8 (s.gen l k).run.code ++ u8 (s.lineState l).code⟩

/-- FAULT_CLEAR at the generator array, with the line registry's part (R110, R10). -/
def ownFaultClear (l : Line) (number : Nat) (s : State) : Reply :=
  match genOfNumber number with
  | none => replyWith s .badValue [.free 1, .bytes (u8 (s.lineState l).code)]
  | some k =>
    if (s.gen l k).run = .fault then
      faultClearReply l k .accepted
        (jamCleared l (s.setGen l k ((s.gen l k).clearFault k (s.lineState l))))
    else faultClearReply l k .badState s

/-- GENERATOR_READ (R115): numbers 1 to 6 name a generator, 7 the steam pulse counter. -/
def ownGeneratorRead (st : Station) (l : Line) (number part : Nat) (s : State) : Reply :=
  match genOfNumber number with
  | some k =>
    readParts .generatorRead [lineNumber l, number] st part
      [.bytes (generatorRead0 (s.gen l k) (asStroke k).isSome)] [.bytes (generatorRead1 s l k)] s
  | none =>
    if number = 7 then
      readParts .generatorRead [lineNumber l, number] st part
        [.bytes (counterRead0 (s.counters.get l))] [.bytes (counterRead1 s l)] s
    else ⟨s, .badValue, []⟩

/-- SOURCE_SELECT (R111). -/
def execSourceSelect (f : Frame) (s : State) : Host.Outcome State Fault Refusal :=
  .next (request .sourceSelect f
    (fun _ l s => ownSourceSelect l (byteAt f.payload 0) (byteAt f.payload 1) s) s)

/-- MANUAL_STROKE (R112). -/
def execManualStroke (f : Frame) (s : State) : Host.Outcome State Fault Refusal :=
  .next (request .manualStroke f (fun _ l s => ownManualStroke l (byteAt f.payload 0) s) s)

/-- FAULT_CLEAR (R110). -/
def execFaultClear (f : Frame) (s : State) : Host.Outcome State Fault Refusal :=
  .next (request .faultClear f (fun _ l s => ownFaultClear l (byteAt f.payload 0) s) s)

/-- GENERATOR_READ (R115, R184). -/
def execGeneratorRead (f : Frame) (s : State) : Host.Outcome State Fault Refusal :=
  .next (request .generatorRead f
    (fun st l s => ownGeneratorRead st l (byteAt f.payload 1) (byteAt f.payload 2) s) s)

end Sys2Proof.Machine
end

