-- ==== Sys2Proof/Machine/LineRequests.lean ====
section
/-! DEFINITION. The requests of the line controllers about line states and start-up feed, and LINE_READ (R5 to R16,
R22, R24, R82). Each owner decides the answer; `request` runs the checks of the bus port before it. -/

namespace Sys2Proof.Machine

/-- The answer of a line request: the line state as it stands after it (R3, 12.5). -/
def lineReply (l : Line) (c : Code) (s : State) : Reply := ⟨s, c, u8 (s.lineState l).code⟩

/-- LINE_START at the line registry (R5). -/
def ownLineStart (l : Line) (s : State) : Reply :=
  if s.lineState l ≠ .offline then lineReply l .badState s
  else if s.configured l = false ∨ s.time.clock.valid = false then lineReply l .notConfigured s
  else if (s.monitor.get l).lockout then lineReply l .locked s
  else if s.anyFault l then lineReply l .badState s
  else lineReply l .accepted (enter l .firingUp false s)

/-- A line joins the tail of the connect queue (R21). -/
def joinQueue (l : Line) (s : State) : State :=
  { s with registry := { s.registry with queue := s.registry.queue ++ [l] } }

/-- CONNECT_REQUEST at the line registry (R22). -/
def ownConnectRequest (l : Line) (s : State) : Reply :=
  match s.lineState l with
  | .firingUp => lineReply l .accepted (grantTest (enter l .connectPending false (joinQueue l s)))
  | .offline | .connectPending | .connecting | .connected | .hold | .burnout | .tripped => lineReply l .badState s

/-- CONNECT_CANCEL at the line registry (R22). -/
def ownConnectCancel (l : Line) (s : State) : Reply :=
  match s.lineState l with
  | .connectPending => lineReply l .accepted (enter l .firingUp false (leaveQueue l s))
  | .offline | .firingUp | .connecting | .connected | .hold | .burnout | .tripped => lineReply l .badState s

/-- CONNECT_DONE at the line registry (R24). -/
def ownConnectDone (l : Line) (s : State) : Reply :=
  match s.lineState l with
  | .connecting => lineReply l .accepted (grantTest (enter l .connected false (freeSlot s)))
  | .offline | .firingUp | .connectPending | .connected | .hold | .burnout | .tripped => lineReply l .badState s

/-- FEED_HOLD at the line registry (R7). -/
def ownFeedHold (l : Line) (s : State) : Reply :=
  match s.lineState l with
  | .firingUp | .connected => lineReply l .accepted (enterHold l ⟨true, false, false⟩ false s)
  | .hold =>
    lineReply l .accepted (setHold l { (s.line l).reasons with requested := true } (s.line l).returnTo s)
  | .offline | .connectPending | .connecting | .burnout | .tripped => lineReply l .badState s

/-- FEED_RELEASE at the line registry (R8). -/
def ownFeedRelease (l : Line) (s : State) : Reply :=
  if s.lineState l = .hold ∧ (s.line l).reasons.requested = true then
    lineReply l .accepted (setReasons l { (s.line l).reasons with requested := false } false s)
  else lineReply l .badState s

/-- LINE_STOP at the line registry (R11). -/
def ownLineStop (l : Line) (s : State) : Reply :=
  if (s.lineState l).forcible then lineReply l .accepted (leaveFor l .burnout false s)
  else lineReply l .badState s

/-- BURNOUT_DONE at the line registry (R13). -/
def ownBurnoutDone (l : Line) (s : State) : Reply :=
  if s.lineState l = .burnout then lineReply l .accepted (enterOffline l s) else lineReply l .badState s

/-- LINE_TRIP at the line registry (R14). -/
def ownLineTrip (l : Line) (s : State) : Reply :=
  match s.lineState l with
  | .offline => lineReply l .badState s
  | .tripped => lineReply l .accepted s
  | .firingUp | .connectPending | .connecting | .connected | .hold | .burnout =>
    lineReply l .accepted (leaveFor l .tripped false s)

/-- TRIP_RESET at the line registry (R15). -/
def ownTripReset (l : Line) (s : State) : Reply :=
  if s.lineState l = .tripped then lineReply l .accepted (enterOffline l s) else lineReply l .badState s

/-- The answer of STARTUP_FEED: held request, M4, line state (R82). -/
def startupReply (l : Line) (c : Code) (s : State) : Reply :=
  ⟨s, c, u16 (s.line l).startupRequest ++ u16 (s.feed.get l).m4 ++ u8 (s.lineState l).code⟩

/-- STARTUP_FEED at the feed computation unit (R82). -/
def ownStartupFeed (l : Line) (v : Nat) (s : State) : Reply :=
  let most := (s.lineConfig l).startupFeedMax
  match s.lineState l with
  | .burnout | .tripped => startupReply l .badState s
  | .offline | .firingUp | .connectPending | .connecting | .connected | .hold =>
    startupReply l (if most < v then .acceptedClamped else .accepted)
      (feedRun l (s.setLine l { s.line l with startupRequest := min v most }))

/-- LINE_READ (R16). -/
def ownLineRead (st : Station) (l : Line) (part : Nat) (s : State) : Reply :=
  readParts .lineRead [lineNumber l] st part [.bytes (lineRead0 s l)] [.bytes (lineRead1 s l)] s

/-- LINE_START (R5). -/
def execLineStart (f : Frame) (s : State) : Host.Outcome State Fault Refusal :=
  .next (request .lineStart f (fun _ l s => ownLineStart l s) s)

/-- CONNECT_REQUEST (R22). -/
def execConnectRequest (f : Frame) (s : State) : Host.Outcome State Fault Refusal :=
  .next (request .connectRequest f (fun _ l s => ownConnectRequest l s) s)

/-- CONNECT_CANCEL (R22). -/
def execConnectCancel (f : Frame) (s : State) : Host.Outcome State Fault Refusal :=
  .next (request .connectCancel f (fun _ l s => ownConnectCancel l s) s)

/-- CONNECT_DONE (R24). -/
def execConnectDone (f : Frame) (s : State) : Host.Outcome State Fault Refusal :=
  .next (request .connectDone f (fun _ l s => ownConnectDone l s) s)

/-- FEED_HOLD (R7). -/
def execFeedHold (f : Frame) (s : State) : Host.Outcome State Fault Refusal :=
  .next (request .feedHold f (fun _ l s => ownFeedHold l s) s)

/-- FEED_RELEASE (R8). -/
def execFeedRelease (f : Frame) (s : State) : Host.Outcome State Fault Refusal :=
  .next (request .feedRelease f (fun _ l s => ownFeedRelease l s) s)

/-- LINE_STOP (R11). -/
def execLineStop (f : Frame) (s : State) : Host.Outcome State Fault Refusal :=
  .next (request .lineStop f (fun _ l s => ownLineStop l s) s)

/-- BURNOUT_DONE (R13). -/
def execBurnoutDone (f : Frame) (s : State) : Host.Outcome State Fault Refusal :=
  .next (request .burnoutDone f (fun _ l s => ownBurnoutDone l s) s)

/-- LINE_TRIP (R14). -/
def execLineTrip (f : Frame) (s : State) : Host.Outcome State Fault Refusal :=
  .next (request .lineTrip f (fun _ l s => ownLineTrip l s) s)

/-- TRIP_RESET (R15). -/
def execTripReset (f : Frame) (s : State) : Host.Outcome State Fault Refusal :=
  .next (request .tripReset f (fun _ l s => ownTripReset l s) s)

/-- STARTUP_FEED (R82). -/
def execStartupFeed (f : Frame) (s : State) : Host.Outcome State Fault Refusal :=
  .next (request .startupFeed f (fun _ l s => ownStartupFeed l (word16 f.payload 0) s) s)

/-- LINE_READ (R16, R184). -/
def execLineRead (f : Frame) (s : State) : Host.Outcome State Fault Refusal :=
  .next (request .lineRead f (fun st l s => ownLineRead st l (byteAt f.payload 0) s) s)

end Sys2Proof.Machine
end

