-- ==== Sys2Proof/Machine/TurbineRequests.lean ====
section
/-! DEFINITION. The turbine controller's requests (R17, R47, R65, R73). -/

namespace Sys2Proof.Machine

/-- HEADER_STALE for the turbine controller and the supervisory station (R18). -/
def headerStaleCondition (b : Bool) (s : State) : State :=
  setCondition .headerStaleSupervisory b (setCondition .headerStaleTurbine b s)

/-- HEADER_STATE at the line registry: the clamped values, the arrival tick, a fresh mark, and the grant test (R17). -/
def ownHeaderState (pressure : Nat) (rise : Int) (s : State) : Reply :=
  let h : Header := ⟨min pressure 20000, clampInt rise (-2000) 2000, s.now, false⟩
  let s := { s with registry := { s.registry with header := h } }
  ⟨grantTest (headerStaleCondition false s), .accepted, []⟩

/-- TURBINE_STATE at the dispatch scheduler (R65). -/
def ownTurbineState (code limit : Nat) (s : State) : Reply :=
  match turbineStateOfCode code with
  | none => ⟨s, .badValue, []⟩
  | some st =>
    let s := { s with sched := { s.sched with turbine := ⟨st, limit, s.now, .reporting⟩ } }
    ⟨decideAdmission (setCondition .turbineSilent false s), .accepted, []⟩

/-- DISPATCH_READ (R47, R73). -/
def ownDispatchRead (s : State) : Reply := replyWith s .accepted (dispatchPieces s)

/-- HEADER_STATE (R17). -/
def execHeaderState (f : Frame) (s : State) : Host.Outcome State Fault Refusal :=
  .next (request .headerState f (fun _ _ s => ownHeaderState (word16 f.payload 0) (int16 f.payload 2) s) s)

/-- TURBINE_STATE (R65). -/
def execTurbineState (f : Frame) (s : State) : Host.Outcome State Fault Refusal :=
  .next (request .turbineState f (fun _ _ s => ownTurbineState (byteAt f.payload 0) (word16 f.payload 1) s) s)

/-- DISPATCH_READ (R47, R73). -/
def execDispatchRead (f : Frame) (s : State) : Host.Outcome State Fault Refusal :=
  .next (request .dispatchRead f (fun _ _ s => ownDispatchRead s) s)

end Sys2Proof.Machine
end

