-- ==== Sys2Proof/Machine/ResetEvents.lean ====
section
/-! DEFINITION. The RESET pin (R1, R175, R177). -/

namespace Sys2Proof.Machine

/-- The part with RESET held low: every record at its reset value. What does not belong to the part's records is kept: the
queue, the levels at the inputs and the model's own choices (log 5). -/
def heldInReset (s : State) : State :=
  { State.reset with
    pending := s.pending
    pins := { s.pins with resetLow := true }
    ties := s.ties
    tieCount := s.tieCount
    freeCount := s.freeCount }

/-- PIN_RESET (R177). -/
def execPinReset (s : State) : Host.Outcome State Fault Refusal :=
  .next (heldInReset s)

/-- How many lines the straps fit: 1, 2 or 3, and 0 fits three (R1). -/
def fittedCount (lns : BitVec 2) : Nat := if lns = 0#2 then 3 else lns.toNat

/-- The line straps are read (R1). -/
def readLineStraps (n : Nat) (s : State) : State :=
  { s with registry := { s.registry with lines :=
    ⟨{ s.registry.lines.a with fitted := decide (1 ≤ n) },
     { s.registry.lines.b with fitted := decide (2 ≤ n) },
     { s.registry.lines.c with fitted := decide (3 ≤ n) }⟩ } }

/-- The part's address from the address straps (R167). -/
def strapAddress (adr : BitVec 3) : Byte := 8#8 + adr.setWidth 8

/-- RESTARTED for all six stations (R177). -/
def setRestarted (s : State) : State :=
  allStations.foldl (fun s st => setFlag (.restarted st) s) s

/-- The conditions that hold at the release (R177). -/
def releaseConditions (s : State) : State :=
  headerStaleCondition true (configCondition (setCondition .clockInvalid true s))

/-- The release of pin reset with the straps read (R1, R49, R167, R177). -/
def released (lns : BitVec 2) (adr : BitVec 3) (s : State) : State :=
  let s := { s with pins := { s.pins with resetLow := false } }
  let s := s.setBus { s.bus with address := strapAddress adr, idleCount := 0 }
  let s := { s with time := { s.time with tick := 0#32 } }
  releaseConditions (setRestarted (readLineStraps (fittedCount lns) s))

/-- RESET_RELEASE (R1): nothing when RESET is not held low. -/
def execResetRelease (lns : BitVec 2) (adr : BitVec 3) (s : State) : Host.Outcome State Fault Refusal :=
  .next (if s.pins.resetLow then released lns adr s else s)

end Sys2Proof.Machine
end

