-- ==== Sys2Proof/Machine/Params.lean ====
section
/-! DEFINITION. The parameters of the configuration store: numbers (12.7), ranges and classes (R26, R48, R74, R92,
R116, R135, R136, R152, R163), cross-constraints (R172). -/

namespace Sys2Proof.Machine

/-- A group with its instance (10.8). -/
inductive Place where
  | plant
  | line (l : Line)
  | generator (l : Line) (g : Gen)
  | ledger (l : Line) (p : Pollutant)
  | dosing (l : Line) (c : Channel)
  deriving DecidableEq, Repr

/-- The line of an instance; PLANT has none. -/
def Place.line? : Place → Option Line
  | .plant => none
  | .line l => some l
  | .generator l _ => some l
  | .ledger l _ => some l
  | .dosing l _ => some l

/-- The parameter classes (00_scope 4.4). -/
inductive ParamClass where
  | live | static | dispatchIdle
  deriving DecidableEq, Repr

/-- A parameter of a group: number, own range, class. -/
structure ParamSpec where
  number : Nat
  lo : Int
  hi : Int
  cls : ParamClass
  deriving DecidableEq, Repr

/-- The PLANT group; shed_order's range is the six orders (`shedOrderOf`). -/
def plantParams : List ParamSpec :=
  [⟨1, 0, 20000, .live⟩, ⟨2, 0, 20000, .live⟩, ⟨3, 1, 2000, .live⟩, ⟨4, 30, 900, .live⟩,
   ⟨5, 0, 2000, .live⟩, ⟨6, 0, 2000, .live⟩, ⟨7, 0, 500, .live⟩, ⟨8, 0x010203, 0x030201, .live⟩,
   ⟨9, 1, 100, .live⟩, ⟨10, 0, 24, .live⟩, ⟨11, 300, 1500, .static⟩] ++
  [⟨16, 0, 1000, .dispatchIdle⟩, ⟨17, 0, 1000, .dispatchIdle⟩, ⟨18, 0, 1000, .dispatchIdle⟩,
   ⟨19, 0, 1000, .dispatchIdle⟩, ⟨20, 0, 1000, .dispatchIdle⟩, ⟨21, 0, 1000, .dispatchIdle⟩,
   ⟨22, 0, 1000, .dispatchIdle⟩, ⟨23, 0, 1000, .dispatchIdle⟩] ++
  [⟨24, 0, 2000, .dispatchIdle⟩, ⟨25, 0, 2000, .dispatchIdle⟩, ⟨26, 0, 2000, .dispatchIdle⟩,
   ⟨27, 0, 2000, .dispatchIdle⟩, ⟨28, 0, 2000, .dispatchIdle⟩, ⟨29, 0, 2000, .dispatchIdle⟩,
   ⟨30, 0, 2000, .dispatchIdle⟩, ⟨31, 0, 2000, .dispatchIdle⟩]

/-- The LINE group. s_nom is tabled s_min..s_max (R26): its own range here is 0..2000, the rest a constraint on the values
as they would stand (DESIGN CHOICE, log 21). -/
def lineParams : List ParamSpec :=
  [⟨1, 0, 2000, .live⟩, ⟨2, 0, 2000, .live⟩, ⟨3, 1, 2000, .live⟩, ⟨4, 1, 1000, .static⟩,
   ⟨5, 0, 1, .static⟩, ⟨6, 1, 500, .live⟩, ⟨7, 1, 60, .live⟩, ⟨8, 2000, 3500, .live⟩,
   ⟨9, 600, 950, .live⟩, ⟨10, 5000, 18000, .static⟩, ⟨11, 50, 2000, .static⟩, ⟨12, 0, 40000, .live⟩] ++
  [⟨13, 0, 40000, .live⟩, ⟨14, 0, 40000, .live⟩, ⟨15, 0, 16, .live⟩, ⟨16, 0, 2, .live⟩,
   ⟨17, 500, 1000, .live⟩, ⟨18, 0, 200, .live⟩, ⟨19, 0, 200, .live⟩, ⟨20, 500, 1000, .live⟩,
   ⟨21, 500, 1000, .live⟩, ⟨22, 1, 16, .live⟩, ⟨23, 0, 400, .live⟩]

/-- The GENERATOR parameters of every kind of generator. period_max is tabled period_min..60000 (R116): its own range here
is 50..60000, the rest a constraint on the values as they would stand (DESIGN CHOICE, log 21). -/
def periodParams : List ParamSpec := [⟨1, 50, 60000, .static⟩, ⟨2, 50, 60000, .static⟩]

/-- The GENERATOR parameters of stroke generators. -/
def strokeParams : List ParamSpec := [⟨3, 10, 6000, .static⟩, ⟨4, 10, 6000, .static⟩, ⟨5, 0, 1, .static⟩]

/-- The GENERATOR group of one generator (R116). -/
def generatorParams : Gen → List ParamSpec
  | .feed => periodParams ++ strokeParams
  | .z1 => periodParams ++ strokeParams ++ [⟨6, 25, 400, .static⟩]
  | .z2 => periodParams ++ strokeParams ++ [⟨6, 25, 400, .static⟩]
  | .z3 => periodParams ++ strokeParams ++ [⟨6, 25, 400, .static⟩]
  | .nox => periodParams ++ [⟨7, 1, 50, .static⟩]
  | .acid => periodParams ++ [⟨7, 1, 50, .static⟩]

/-- The LEDGER group. -/
def ledgerParams : List ParamSpec :=
  [⟨1, 1, 65535, .live⟩, ⟨2, 1, 65535, .live⟩, ⟨3, 0, 48, .live⟩, ⟨4, 0, 1, .live⟩]

/-- The DOSING group of one channel (R163). -/
def dosingParams : Channel → List ParamSpec
  | .nox =>
    [⟨1, 0, 20000, .live⟩, ⟨2, 1, 1000, .static⟩, ⟨3, 0, 200000, .live⟩, ⟨4, 0, 65535, .live⟩,
     ⟨7, 0, 1000, .live⟩, ⟨8, -900, 0, .live⟩, ⟨9, 0, 2000, .live⟩]
  | .acid =>
    [⟨1, 0, 20000, .live⟩, ⟨2, 1, 1000, .static⟩, ⟨3, 0, 200000, .live⟩, ⟨5, 0, 65535, .live⟩,
     ⟨6, 0, 65535, .live⟩, ⟨7, 0, 1000, .live⟩, ⟨8, -900, 0, .live⟩, ⟨9, 0, 2000, .live⟩]

/-- The parameters of an instance's kind, in ascending order of number. -/
def Place.params : Place → List ParamSpec
  | .plant => plantParams
  | .line _ => lineParams
  | .generator _ g => generatorParams g
  | .ledger _ _ => ledgerParams
  | .dosing _ c => dosingParams c

/-- The parameter of a number, if the instance's kind has it. -/
def Place.param? (pl : Place) (n : Nat) : Option ParamSpec :=
  pl.params.find? (fun p => decide (p.number = n))

/-! ### Values -/

/-- The shedding order that a value carries, one letter a byte, earliest first (12.7). -/
def shedOrderOf (v : Int) : Option (List Line) :=
  match lineOfNumber (v.toNat / 65536), lineOfNumber (v.toNat / 256 % 256), lineOfNumber (v.toNat % 256) with
  | some x, some y, some z => if x ≠ y ∧ y ≠ z ∧ x ≠ z then some [x, y, z] else none
  | _, _, _ => none

/-- The value that carries a shedding order. -/
def shedOrderValue (o : List Line) : Int :=
  o.foldl (fun v l => v * 256 + (lineNumber l : Int)) 0

/-- Whether a value lies in a parameter's own range (R172, step 2). -/
def ParamSpec.admits (p : ParamSpec) (pl : Place) (v : Int) : Bool :=
  if pl = .plant ∧ p.number = 8 then (shedOrderOf v).isSome else decide (p.lo ≤ v) && decide (v ≤ p.hi)

/-- The edge of a value. -/
def edgeOfValue (v : Int) : Edge := if v = 0 then .rising else .falling

/-- A PLANT parameter's value in force. -/
def PlantConfig.value (c : PlantConfig) (n : Nat) : Int :=
  if 16 ≤ n ∧ n ≤ 23 then c.charP.getD (n - 16) 0
  else if 24 ≤ n ∧ n ≤ 31 then c.charS.getD (n - 24) 0
  else
    match n with
    | 1 => c.pLo
    | 2 => c.pHi
    | 3 => c.surgeRate
    | 4 => c.connectTimeout
    | 5 => c.bypassMax
    | 6 => c.turbineMax
    | 7 => c.auxMax
    | 8 => shedOrderValue c.shedOrder
    | 9 => c.deadband
    | 10 => c.lowWater
    | 11 => c.oRef
    | _ => 0

/-- A PLANT parameter replaced. -/
def PlantConfig.withValue (c : PlantConfig) (n : Nat) (v : Int) : PlantConfig :=
  if 16 ≤ n ∧ n ≤ 23 then { c with charP := c.charP.set (n - 16) v.toNat }
  else if 24 ≤ n ∧ n ≤ 31 then { c with charS := c.charS.set (n - 24) v.toNat }
  else
    match n with
    | 1 => { c with pLo := v.toNat }
    | 2 => { c with pHi := v.toNat }
    | 3 => { c with surgeRate := v.toNat }
    | 4 => { c with connectTimeout := v.toNat }
    | 5 => { c with bypassMax := v.toNat }
    | 6 => { c with turbineMax := v.toNat }
    | 7 => { c with auxMax := v.toNat }
    | 8 => { c with shedOrder := (shedOrderOf v).getD c.shedOrder }
    | 9 => { c with deadband := v.toNat }
    | 10 => { c with lowWater := v.toNat }
    | 11 => { c with oRef := v.toNat }
    | _ => c

/-- A LINE parameter's value in force. -/
def LineConfig.value (c : LineConfig) : Nat → Int
  | 1 => c.sMin
  | 2 => c.sNom
  | 3 => c.sMax
  | 4 => c.steamPulseQ
  | 5 => edgeCode c.steamPulseEdge
  | 6 => c.devTol
  | 7 => c.devMinutes
  | 8 => c.enthalpyRise
  | 9 => c.efficiency
  | 10 => c.lhvInit
  | 11 => c.strokeCharge
  | 12 => c.feedMin
  | 13 => c.feedMax
  | 14 => c.startupFeedMax
  | 15 => c.lhvWeight
  | 16 => c.lhvLag
  | 17 => c.throttleFloor
  | 18 => c.stepDown
  | 19 => c.stepUp
  | 20 => c.warn
  | 21 => c.episodeThrottle
  | 22 => c.episodeLimit
  | 23 => c.allowance
  | _ => 0

/-- A LINE parameter replaced. -/
def LineConfig.withValue (c : LineConfig) (n : Nat) (v : Int) : LineConfig :=
  match n with
  | 1 => { c with sMin := v.toNat }
  | 2 => { c with sNom := v.toNat }
  | 3 => { c with sMax := v.toNat }
  | 4 => { c with steamPulseQ := v.toNat }
  | 5 => { c with steamPulseEdge := edgeOfValue v }
  | 6 => { c with devTol := v.toNat }
  | 7 => { c with devMinutes := v.toNat }
  | 8 => { c with enthalpyRise := v.toNat }
  | 9 => { c with efficiency := v.toNat }
  | 10 => { c with lhvInit := v.toNat }
  | 11 => { c with strokeCharge := v.toNat }
  | 12 => { c with feedMin := v.toNat }
  | 13 => { c with feedMax := v.toNat }
  | 14 => { c with startupFeedMax := v.toNat }
  | 15 => { c with lhvWeight := v.toNat }
  | 16 => { c with lhvLag := v.toNat }
  | 17 => { c with throttleFloor := v.toNat }
  | 18 => { c with stepDown := v.toNat }
  | 19 => { c with stepUp := v.toNat }
  | 20 => { c with warn := v.toNat }
  | 21 => { c with episodeThrottle := v.toNat }
  | 22 => { c with episodeLimit := v.toNat }
  | 23 => { c with allowance := v.toNat }
  | _ => c

/-- A GENERATOR parameter's value in force. -/
def GenConfig.value (c : GenConfig) : Nat → Int
  | 1 => c.periodMin
  | 2 => c.periodMax
  | 3 => c.strokeMin
  | 4 => c.strokeMax
  | 5 => edgeCode c.completeEdge
  | 6 => c.zoneRatio
  | 7 => c.pulseWidth
  | _ => 0

/-- A GENERATOR parameter replaced. -/
def GenConfig.withValue (c : GenConfig) (n : Nat) (v : Int) : GenConfig :=
  match n with
  | 1 => { c with periodMin := v.toNat }
  | 2 => { c with periodMax := v.toNat }
  | 3 => { c with strokeMin := v.toNat }
  | 4 => { c with strokeMax := v.toNat }
  | 5 => { c with completeEdge := edgeOfValue v }
  | 6 => { c with zoneRatio := v.toNat }
  | 7 => { c with pulseWidth := v.toNat }
  | _ => c

/-- A LEDGER parameter's value in force. -/
def LedgerConfig.value (c : LedgerConfig) : Nat → Int
  | 1 => c.periodLimit
  | 2 => c.dayLimit
  | 3 => c.gapAllowance
  | 4 => markValue c.throttlesFeed
  | _ => 0

/-- A LEDGER parameter replaced. -/
def LedgerConfig.withValue (c : LedgerConfig) (n : Nat) (v : Int) : LedgerConfig :=
  match n with
  | 1 => { c with periodLimit := v.toNat }
  | 2 => { c with dayLimit := v.toNat }
  | 3 => { c with gapAllowance := v.toNat }
  | 4 => { c with throttlesFeed := decide (v ≠ 0) }
  | _ => c

/-- A DOSING parameter's value in force. -/
def DosingConfig.value (c : DosingConfig) : Nat → Int
  | 1 => c.kFf
  | 2 => c.pulseG
  | 3 => c.rateMax
  | 4 => c.setpoint
  | 5 => c.setpointSo2
  | 6 => c.setpointHcl
  | 7 => c.kt
  | 8 => c.trimLo
  | 9 => c.trimHi
  | _ => 0

/-- A DOSING parameter replaced. -/
def DosingConfig.withValue (c : DosingConfig) (n : Nat) (v : Int) : DosingConfig :=
  match n with
  | 1 => { c with kFf := v.toNat }
  | 2 => { c with pulseG := v.toNat }
  | 3 => { c with rateMax := v.toNat }
  | 4 => { c with setpoint := v.toNat }
  | 5 => { c with setpointSo2 := v.toNat }
  | 6 => { c with setpointHcl := v.toNat }
  | 7 => { c with kt := v.toNat }
  | 8 => { c with trimLo := v }
  | 9 => { c with trimHi := v }
  | _ => c

/-! ### The store -/

namespace ConfigStore

/-- A parameter's value in force. -/
def value (c : ConfigStore) : Place → Nat → Int
  | .plant, n => c.plant.value n
  | .line l, n => (c.line.get l).value n
  | .generator l g, n => ((c.gen.get l).get g).value n
  | .ledger l p, n => ((c.ledger.get l).get p).value n
  | .dosing l d, n => ((c.dosing.get l).get d).value n

/-- A parameter replaced. -/
def withValue (c : ConfigStore) (pl : Place) (n : Nat) (v : Int) : ConfigStore :=
  match pl with
  | .plant => { c with plant := c.plant.withValue n v }
  | .line l => { c with line := c.line.set l ((c.line.get l).withValue n v) }
  | .generator l g =>
    { c with gen := c.gen.set l ((c.gen.get l).set g (((c.gen.get l).get g).withValue n v)) }
  | .ledger l p =>
    { c with ledger := c.ledger.set l ((c.ledger.get l).set p (((c.ledger.get l).get p).withValue n v)) }
  | .dosing l d =>
    { c with dosing := c.dosing.set l ((c.dosing.get l).set d (((c.dosing.get l).get d).withValue n v)) }

/-- The written mark of an instance. -/
def written (c : ConfigStore) : Place → Bool
  | .plant => c.plant.written
  | .line l => (c.line.get l).written
  | .generator l g => ((c.gen.get l).get g).written
  | .ledger l p => ((c.ledger.get l).get p).written
  | .dosing l d => ((c.dosing.get l).get d).written

/-- The written mark of an instance set. -/
def markWritten (c : ConfigStore) (pl : Place) : ConfigStore :=
  match pl with
  | .plant => { c with plant := { c.plant with written := true } }
  | .line l => { c with line := c.line.set l { c.line.get l with written := true } }
  | .generator l g =>
    { c with gen := c.gen.set l ((c.gen.get l).set g { (c.gen.get l).get g with written := true }) }
  | .ledger l p =>
    { c with ledger := c.ledger.set l ((c.ledger.get l).set p { (c.ledger.get l).get p with written := true }) }
  | .dosing l d =>
    { c with dosing := c.dosing.set l ((c.dosing.get l).set d { (c.dosing.get l).get d with written := true }) }

/-- Every pair of a write applied (R173). -/
def withPairs (c : ConfigStore) (pl : Place) (pairs : List (Nat × Int)) : ConfigStore :=
  pairs.foldl (fun c p => c.withValue pl p.1 p.2) c

end ConfigStore

/-! ### Cross-constraints (R172, step 3) -/

/-- Whether a list is strictly increasing. -/
def increasing : List Nat → Bool
  | [] => true
  | [_] => true
  | x :: y :: rest => decide (x < y) && increasing (y :: rest)

/-- A cross-constraint: the numbers that take part, and whether it holds. -/
structure Constraint where
  numbers : List Nat
  holds : Bool
  deriving DecidableEq, Repr

/-- The cross-constraints of an instance on a store, with a line's budget used (R172). -/
def Place.constraints (pl : Place) (c : ConfigStore) (budgetUsed : Nat) : List Constraint :=
  match pl with
  | .plant =>
    [⟨[1, 2], decide (c.plant.pLo < c.plant.pHi)⟩,
     ⟨[16, 17, 18, 19, 20, 21, 22, 23], increasing c.plant.charP⟩,
     ⟨[24, 25, 26, 27, 28, 29, 30, 31], increasing c.plant.charS⟩]
  | .line l =>
    let x := c.line.get l
    [⟨[1, 2], decide (x.sMin ≤ x.sNom)⟩, ⟨[2, 3], decide (x.sNom ≤ x.sMax)⟩,
     ⟨[12, 13], decide (x.feedMin ≤ x.feedMax)⟩, ⟨[14, 13], decide (x.startupFeedMax ≤ x.feedMax)⟩,
     ⟨[23], decide (budgetUsed ≤ x.allowance)⟩]
  | .generator l g =>
    let x := (c.gen.get l).get g
    match g with
    | .feed | .z1 | .z2 | .z3 =>
      [⟨[1, 2], decide (x.periodMin ≤ x.periodMax)⟩, ⟨[3, 4], decide (x.strokeMin < x.strokeMax)⟩]
    | .nox | .acid =>
      [⟨[1, 2], decide (x.periodMin ≤ x.periodMax)⟩, ⟨[7, 1], decide (x.pulseWidth < x.periodMin)⟩]
  | .ledger _ _ => []
  | .dosing _ _ => []

/-- The number of the earliest pair that takes part in a failing constraint, if one fails. -/
def failingNumber (cs : List Constraint) (pairs : List (Nat × Int)) : Option Nat :=
  let bad := cs.filter (fun c => !c.holds)
  if bad.isEmpty then none
  else some (((pairs.find? (fun p => bad.any (fun c => c.numbers.contains p.1))).map Prod.fst).getD 0)

end Sys2Proof.Machine
end

