-- ==== Sys2Proof/Machine/SupervisoryRequests.lean ====
section
/-! DEFINITION. The supervisory station's requests: clock, schedule, auxiliary demand, budget, configuration (R42, R51,
R60 to R62, R149, R150, R172 to R174). -/

namespace Sys2Proof.Machine

/-! ### CLOCK_SET (R51) -/

/-- The answer of CLOCK_SET: the clock items (R50). -/
def clockReply (c : Code) (s : State) : Reply := ⟨s, c, clockField s.time.clock⟩

/-- CLOCK_SET at the time base (R51): a full set with every fitted line OFFLINE, else a trim. Boundaries the clock has
reached and whose events are waiting are taken before it (log 4). -/
def ownClockSet (secs : Nat) (s : State) : Reply :=
  if 86399 < secs then clockReply .badValue s
  else if s.allOffline then clockReply .accepted (fullSet secs (takeDue s))
  else if trimRefused (trimDifference secs s.time.clock) s.time.clock then clockReply .badState s
  else clockReply .accepted (trim (trimDifference secs s.time.clock) (takeDue s))

/-! ### The schedule (R60, R61, R62) -/

/-- The answer of SCHEDULE_ADD and SCHEDULE_WITHDRAW: the pending count (12.5). -/
def scheduleReply (c : Code) (s : State) : Reply := ⟨s, c, u8 s.sched.queue.length⟩

/-- The dispatch block a SCHEDULE_ADD payload carries (12.4). -/
def blockOfPayload (p : List Byte) : DispatchBlock :=
  ⟨byteAt p 0, word16 p 1, word16 p 3, byteAt p 5, if word16 p 6 = 65535 then none else some (word16 p 6)⟩

/-- Whether a dispatch block's fields lie in their ranges (R59, R60). -/
def DispatchBlock.inRange (b : DispatchBlock) : Bool :=
  decide (b.day ≤ 1) && decide (b.start ≤ 1439) && decide (b.exportTarget ≤ 1000) &&
    decide (1 ≤ b.rampLimit) && decide (b.rampLimit ≤ 200) &&
    match b.duration with
    | some d => decide (1 ≤ d) && decide (d ≤ 1440)
    | none => true

/-- A pending block of a start. -/
def sameStart (day start : Nat) (b : DispatchBlock) : Bool :=
  decide (b.day = day) && decide (b.start = start)

/-- Replace the schedule queue, with SCHEDULE_LOW decided again (R64). -/
def setQueue (q : List DispatchBlock) (s : State) : State :=
  scheduleLow { s with sched := { s.sched with queue := q } }

/-- The minute of the present (R59): the clock's, and while the minute event of the minute just reached is not yet taken,
the one before it (R60). -/
def State.presentMinute (s : State) : Nat :=
  if s.time.minuteDue then (s.time.clock.minute + 1439) % 1440 else s.time.clock.minute

/-- SCHEDULE_ADD at the dispatch scheduler (R60). -/
def ownScheduleAdd (b : DispatchBlock) (s : State) : Reply :=
  if s.time.clock.valid = false then scheduleReply .clockInvalid s
  else if b.inRange = false then scheduleReply .badValue s
  else if b.due s.presentMinute then scheduleReply .late s
  else if s.sched.queue.any (sameStart b.day b.start) then
    scheduleReply .acceptedReplaced (setQueue (insertBlock b s.sched.queue) s)
  else if 24 ≤ s.sched.queue.length then scheduleReply .queueFull s
  else scheduleReply .accepted (setQueue (insertBlock b s.sched.queue) s)

/-- The active dispatch block is cleared (R61). -/
def clearActive (s : State) : State :=
  decideAdmission { s with sched := { s.sched with active := none } }

/-- SCHEDULE_WITHDRAW at the dispatch scheduler (R61); day offset FFh is the active selector (12.2). -/
def ownScheduleWithdraw (day start : Nat) (s : State) : Reply :=
  if day = 255 then
    if s.sched.active.isSome then scheduleReply .accepted (clearActive s) else scheduleReply .notFound s
  else if s.sched.queue.any (sameStart day start) then
    scheduleReply .accepted (setQueue (s.sched.queue.filter (fun b => !sameStart day start b)) s)
  else scheduleReply .notFound s

/-- SCHEDULE_READ (R62). -/
def ownScheduleRead (st : Station) (start part : Nat) (s : State) : Reply :=
  if 23 < start then ⟨s, .badValue, []⟩
  else readParts .scheduleRead [start] st part (scheduleRead0 s start) (scheduleRead1 s start) s

/-! ### AUX_SET (R42) -/

/-- The held auxiliary demand replaced. -/
def setAux (v : Nat) (s : State) : State := { s with alloc := { s.alloc with aux := v } }

/-- AUX_SET at the steam allocator (R42). -/
def ownAuxSet (v : Nat) (s : State) : Reply :=
  let s' := recompute (setAux (min v s.config.plant.auxMax) s)
  ⟨s', if s.config.plant.auxMax < v then .acceptedClamped else .accepted,
    u16 s'.alloc.aux ++ u16 s'.alloc.record.served ++ u16 s'.alloc.record.revision.toNat⟩

/-! ### Budgets (R149, R150) -/

/-- The answer of BUDGET_LOAD: budget used, allowance, lockout, budget loaded (12.5). -/
def budgetReply (l : Line) (c : Code) (s : State) : Reply :=
  let m := s.monitor.get l
  ⟨s, c, u16 m.budgetUsed ++ u16 (s.lineConfig l).allowance ++ u8 (markValue m.lockout) ++
    u8 (markValue m.budgetLoaded)⟩

/-- Budget used and lockout take the values loaded, and budget loaded is set (R149). -/
def loadBudget (l : Line) (used : Nat) (lockout : Bool) (s : State) : State :=
  configCondition (setLockout l lockout
    (s.setMonitor l { s.monitor.get l with budgetUsed := used, budgetLoaded := true }))

/-- BUDGET_LOAD at the compliance monitor (R149). -/
def ownBudgetLoad (l : Line) (used code : Nat) (s : State) : Reply :=
  if 1 < code ∨ 400 < used then budgetReply l .badValue s
  else if s.lineState l ≠ .offline then budgetReply l .badState s
  else if (s.lineConfig l).allowance < used then budgetReply l .badValue s
  else budgetReply l .accepted (loadBudget l used (code == 1) s)

/-- The answer of LOCKOUT_CLEAR: lockout and budget used (12.5). -/
def lockoutReply (l : Line) (c : Code) (s : State) : Reply :=
  ⟨s, c, u8 (markValue (s.monitor.get l).lockout) ++ u16 (s.monitor.get l).budgetUsed⟩

/-- LOCKOUT_CLEAR at the compliance monitor (R150). -/
def ownLockoutClear (l : Line) (s : State) : Reply :=
  if s.lineState l = .offline then lockoutReply l .accepted (setLockout l false s)
  else lockoutReply l .badState s

/-! ### Configuration -/

/-- The instance a group, line and member number name (R183): line 0 and member 0 for PLANT, member 0 for LINE. -/
def placeOf (group line member : Nat) : Option Place :=
  match group, lineOfNumber line with
  | 1, none => if line = 0 ∧ member = 0 then some .plant else none
  | 2, some l => if member = 0 then some (.line l) else none
  | 3, some l => (genOfNumber member).map (Place.generator l)
  | 4, some l => (pollutantOfCode member).map (Place.ledger l)
  | 5, some l => (channelOfCode member).map (Place.dosing l)
  | _, _ => none

/-- The pairs of a CONFIG_WRITE payload, each a number and a signed value (R183). -/
def pairsOf (p : List Byte) : List (Nat × Int) :=
  (List.range ((p.length - 3) / 4)).map (fun i => (byteAt p (3 + 4 * i), int24 p (4 + 4 * i)))

/-- Whether a class lets an instance's parameter be written now (R172, step 2; R136 for o_ref). -/
def ParamClass.permits (c : ParamClass) (pl : Place) (s : State) : Bool :=
  match c with
  | .live => true
  | .static =>
    match pl.line? with
    | some l => decide (s.lineState l = .offline)
    | none => s.allOffline
  | .dispatchIdle => decide (s.alloc.record.mode = .steamLed)

/-- The pair-by-pair check: the first failure with its number (R172, step 2). -/
def checkPairs (pl : Place) (s : State) : List Nat → List (Nat × Int) → Option (Code × Nat)
  | _, [] => none
  | seen, (n, v) :: rest =>
    match pl.param? n with
    | none => some (.badValue, n)
    | some spec =>
      if seen.contains n then some (.badValue, n)
      else if spec.admits pl v = false then some (.badValue, n)
      else if spec.cls.permits pl s = false then some (.badState, n)
      else checkPairs pl s (n :: seen) rest

/-- The budget used that an instance's constraints look at. -/
def budgetFor (pl : Place) (s : State) : Nat :=
  match pl with
  | .line l => (s.monitor.get l).budgetUsed
  | .plant | .generator _ _ | .ledger _ _ | .dosing _ _ => 0

/-- The whole check of a write: the first failure with the number it echoes (R172). -/
def checkWrite (pl : Place) (pairs : List (Nat × Int)) (s : State) : Option (Code × Nat) :=
  match checkPairs pl s [] pairs with
  | some e => some e
  | none =>
    (failingNumber (pl.constraints (s.config.withPairs pl pairs) (budgetFor pl s)) pairs).map
      (fun n => (Code.badValue, n))

/-- Whether a write carries one of some numbers. -/
def carries (pairs : List (Nat × Int)) (ns : List Nat) : Bool :=
  pairs.any (fun p => ns.contains p.1)

/-- The registry's action on a PLANT write: the grant test (R26). -/
def plantRegistry (pairs : List (Nat × Int)) (s : State) : State :=
  if carries pairs [1, 2, 3] then grantTest s else s

/-- The allocator's one action on a PLANT write: aux_max lowers a held demand above it, and the recomputation of that or
of bypass_max (R43, R48). -/
def plantAllocator (pairs : List (Nat × Int)) (s : State) : State :=
  let lowered := carries pairs [7] && decide (s.config.plant.auxMax < s.alloc.aux)
  let s := if lowered then setAux s.config.plant.auxMax s else s
  if lowered || carries pairs [5] then recompute s else s

/-- The scheduler's action on a PLANT write: E_r from a new table, the ceiling, SCHEDULE_LOW (R70, R74). -/
def plantScheduler (pairs : List (Nat × Int)) (s : State) : State :=
  let s :=
    if pairs.any (fun p => decide (16 ≤ p.1)) then
      { s with sched := { s.sched with ramped := invLookup s.config.plant s.alloc.record.target } }
    else s
  let s := if carries pairs [10] then scheduleLow s else s
  if carries pairs [6] then decideAdmission s else s

/-- The steam pulse counter's action on a LINE write: it senses from the first one, on the edge in force (R27). -/
def lineCounter (l : Line) (s : State) : State :=
  s.setCounter l { s.counters.get l with sensing := true, edge := (s.lineConfig l).steamPulseEdge }

/-- The allocator's action on a LINE write (R26). -/
def lineAllocator (pairs : List (Nat × Int)) (s : State) : State :=
  if carries pairs [1, 2, 3] then recompute s else s

/-- The feed computation unit's action on a LINE write: the current mass, L, and one run (R87, R89, R92). -/
def lineFeed (l : Line) (pairs : List (Nat × Int)) (s : State) : State :=
  let cfg := s.lineConfig l
  let r := s.feed.get l
  let s := if carries pairs [11] then s.setFeed l { r with mass := r.strokes * cfg.strokeCharge } else s
  let s := if carries pairs [10] then s.setFeed l { s.feed.get l with lhv := cfg.lhvInit } else s
  if carries pairs [8, 9, 12, 13, 14] then feedRun l s else s

/-- The compliance monitor's action on a LINE write: floor raises the throttle, and floor or episode_throttle caps it
while the episode is OPEN (R139, R152). A write that lowers floor while the episode is OPEN applies the cap too, and so
may lower the throttle (DESIGN CHOICE, log 20). -/
def lineMonitor (l : Line) (pairs : List (Nat × Int)) (s : State) : State :=
  let cfg := s.lineConfig l
  let m := s.monitor.get l
  if carries pairs [17, 21] then
    setThrottle l (capThrottle cfg m.episodeOpen (max cfg.throttleFloor m.throttle)) s
  else s

/-- The generator array's action on a GENERATOR write: the configured mark, and new period limits on the current period
(R93, R116). -/
def generatorArray (l : Line) (k : Gen) (pairs : List (Nat × Int)) (s : State) : State :=
  let g := { s.gen l k with configured := true }
  let cfg := s.genConfig l k
  s.setGen l k (if carries pairs [1, 2] then g.clampCurrent cfg.periodMin cfg.periodMax else g)

/-- The dosing computation's action on a DOSING write: the trim clamped, and one computation (R163). -/
def dosingOwner (l : Line) (c : Channel) (pairs : List (Nat × Int)) (s : State) : State :=
  let cfg := s.dosingConfig l c
  let r := s.dose l c
  let s := if carries pairs [8, 9] then s.setDose l c { r with trim := clampInt r.trim cfg.trimLo cfg.trimHi } else s
  if carries pairs [1, 3, 8, 9] then doseCompute l c s else s

/-- The owners of one write that take their action independently of one another (R173). -/
inductive WriteTask where
  | registry | allocator | scheduler | feed | monitor
  deriving DecidableEq, Repr

/-- An owner's action on a PLANT or LINE write. -/
def runWriteTask (pl : Place) (pairs : List (Nat × Int)) (t : WriteTask) (s : State) : State :=
  match pl, t with
  | .plant, .registry => plantRegistry pairs s
  | .plant, .allocator => plantAllocator pairs s
  | .plant, .scheduler => plantScheduler pairs s
  | .line _, .allocator => lineAllocator pairs s
  | .line l, .feed => lineFeed l pairs s
  | .line l, .monitor => lineMonitor l pairs s
  | _, _ => s

/-- The actions of an accepted write (R173). -/
def writeActions (pl : Place) (pairs : List (Nat × Int)) (s : State) : State :=
  match pl with
  | .plant => forEachInAnyOrder [.registry, .allocator, .scheduler] (runWriteTask pl pairs) s
  | .line l => forEachInAnyOrder [.allocator, .feed, .monitor] (runWriteTask pl pairs) (lineCounter l s)
  | .generator l k => generatorArray l k pairs s
  | .ledger _ _ => s
  | .dosing l c => dosingOwner l c pairs s

/-- A write that passed every check is applied (R173). -/
def applyWrite (pl : Place) (pairs : List (Nat × Int)) (s : State) : State :=
  writeActions pl pairs
    (configCondition { s with config := (s.config.withPairs pl pairs).markWritten pl })

/-- CONFIG_WRITE at the configuration store (R172, R173). -/
def ownConfigWrite (p : List Byte) (s : State) : Reply :=
  match placeOf (byteAt p 0) (byteAt p 1) (byteAt p 2) with
  | none => ⟨s, .badValue, u8 0⟩
  | some pl =>
    match checkWrite pl (pairsOf p) s with
    | some (c, n) => ⟨s, c, u8 n⟩
    | none => ⟨applyWrite pl (pairsOf p) s, .accepted, p.take 3 ++ u8 (pairsOf p).length⟩

/-- The parameters of an instance's kind from a first number on. -/
def Place.paramsFrom (pl : Place) (first : Nat) : List ParamSpec :=
  pl.params.filter (fun x => decide (first ≤ x.number))

/-- CONFIG_READ at the configuration store (R174). -/
def ownConfigRead (p : List Byte) (s : State) : Reply :=
  match placeOf (byteAt p 0) (byteAt p 1) (byteAt p 2) with
  | none => ⟨s, .badValue, []⟩
  | some pl =>
    let ps := pl.paramsFrom (byteAt p 3)
    ⟨s, .accepted,
      u8 (bitsValue [s.config.written pl, decide (10 < ps.length)]) ++
        ((ps.take 10).map (fun x => u8 x.number ++ s24 (s.config.value pl x.number))).flatten⟩

/-! ### The commands -/

/-- CLOCK_SET (R51). -/
def execClockSet (f : Frame) (s : State) : Host.Outcome State Fault Refusal :=
  .next (request .clockSet f (fun _ _ s => ownClockSet (word24 f.payload 0) s) s)

/-- SCHEDULE_ADD (R60). -/
def execScheduleAdd (f : Frame) (s : State) : Host.Outcome State Fault Refusal :=
  .next (request .scheduleAdd f (fun _ _ s => ownScheduleAdd (blockOfPayload f.payload) s) s)

/-- SCHEDULE_WITHDRAW (R61). -/
def execScheduleWithdraw (f : Frame) (s : State) : Host.Outcome State Fault Refusal :=
  .next (request .scheduleWithdraw f
    (fun _ _ s => ownScheduleWithdraw (byteAt f.payload 0) (word16 f.payload 1) s) s)

/-- SCHEDULE_READ (R62, R184). -/
def execScheduleRead (f : Frame) (s : State) : Host.Outcome State Fault Refusal :=
  .next (request .scheduleRead f
    (fun st _ s => ownScheduleRead st (byteAt f.payload 0) (byteAt f.payload 1) s) s)

/-- AUX_SET (R42). -/
def execAuxSet (f : Frame) (s : State) : Host.Outcome State Fault Refusal :=
  .next (request .auxSet f (fun _ _ s => ownAuxSet (word16 f.payload 0) s) s)

/-- CONFIG_WRITE (R172, R173). -/
def execConfigWrite (f : Frame) (s : State) : Host.Outcome State Fault Refusal :=
  .next (request .configWrite f (fun _ _ s => ownConfigWrite f.payload s) s)

/-- CONFIG_READ (R174). -/
def execConfigRead (f : Frame) (s : State) : Host.Outcome State Fault Refusal :=
  .next (request .configRead f (fun _ _ s => ownConfigRead f.payload s) s)

/-- BUDGET_LOAD (R149). -/
def execBudgetLoad (f : Frame) (s : State) : Host.Outcome State Fault Refusal :=
  .next (request .budgetLoad f
    (fun _ l s => ownBudgetLoad l (word16 f.payload 0) (byteAt f.payload 2) s) s)

/-- LOCKOUT_CLEAR (R150). -/
def execLockoutClear (f : Frame) (s : State) : Host.Outcome State Fault Refusal :=
  .next (request .lockoutClear f (fun _ l s => ownLockoutClear l s) s)

end Sys2Proof.Machine
end

