-- ==== Sys2Proof/Machine/TimerEvents.lean ====
section
/-! DEFINITION. Events of the timers and of the clock (R18, R25, R55, R56, R66, R182). An event that has not come about in
the present state changes nothing (log 4). -/

namespace Sys2Proof.Machine

/-- 500 ticks have passed since the last HEADER_STATE and the record is fresh (R18). -/
def State.headerExpired (s : State) : Bool :=
  !s.registry.header.stale && decide (500 ≤ s.elapsed s.registry.header.arrival)

/-- HEADER_STALE (R18). -/
def execHeaderStale (s : State) : Host.Outcome State Fault Refusal :=
  .next
    (if s.headerExpired then
      headerStaleCondition true
        { s with registry := { s.registry with header := { s.registry.header with stale := true } } }
    else s)

/-- The silence state replaced. -/
def setSilence (x : Silence) (s : State) : State :=
  { s with sched := { s.sched with turbine := { s.sched.turbine with silence := x } } }

/-- 500 ticks have passed since the last TURBINE_STATE and the record is REPORTING; never while RESET is low (R66). -/
def State.turbineQuiet (s : State) : Bool :=
  !s.pins.resetLow && decide (s.sched.turbine.silence = .reporting) &&
    decide (500 ≤ s.elapsed s.sched.turbine.arrival)

/-- TURBINE_SILENT (R66). -/
def execTurbineSilent (s : State) : Host.Outcome State Fault Refusal :=
  .next (if s.turbineQuiet then setCondition .turbineSilent true (setSilence .silent s) else s)

/-- 3000 ticks have passed since the last TURBINE_STATE and the record is not yet LOST (R66). -/
def State.turbineGone (s : State) : Bool :=
  !s.pins.resetLow && decide (s.sched.turbine.silence ≠ .lost) &&
    decide (3000 ≤ s.elapsed s.sched.turbine.arrival)

/-- TURBINE_LOST (R66): the ceiling and the mode are decided with the effective state TRIPPED. TURBINE_SILENT holds. -/
def execTurbineLost (s : State) : Host.Outcome State Fault Refusal :=
  .next
    (if s.turbineGone then decideAdmission (setCondition .turbineSilent true (setSilence .lost s)) else s)

/-- The connect timer has run out (R25). -/
def State.connectExpired (s : State) : Option Line :=
  match s.registry.slot with
  | some slot => if slot.timeout ≤ s.elapsed slot.grantTick then some slot.line else none
  | none => none

/-- CONNECT_TIMEOUT (R25). -/
def execConnectTimeout (s : State) : Host.Outcome State Fault Refusal :=
  .next
    (match s.connectExpired with
    | some l => grantTest (enter l .firingUp true (freeSlot s))
    | none => s)

/-- NOTIFY_PULSE_END (R182). -/
def execNotifyPulseEnd (st : Station) (s : State) : Host.Outcome State Fault Refusal :=
  .next (s.setFlagUnit st { s.flags.get st with pulseLeft := 0 })

/-- SLOT_CLOSE (R121): the close of the instant the clock has reached, with its later stages. -/
def execSlotClose (s : State) : Host.Outcome State Fault Refusal :=
  .next (if s.time.slotDue then takeClose s else s)

/-- MINUTE_EVENT (R56). -/
def execMinuteEvent (s : State) : Host.Outcome State Fault Refusal :=
  .next (if s.time.minuteDue then takeMinute s else s)

/-- HOLD_END (R55): the last tick of a hold, after which the time of day runs on. -/
def execHoldEnd (s : State) : Host.Outcome State Fault Refusal :=
  .next (if s.time.clock.hold = 1 then s.setClock { s.time.clock with hold := 0 } else s)

end Sys2Proof.Machine
end

