-- ==== Sys2Proof/Machine/Dispatch.lean ====
section
/-! DEFINITION. One arm per command: its effect on everything but the queue. -/

namespace Sys2Proof.Machine

/-- The effect of a command (spec/opcode_table.json). -/
def exec (i : Instr) (s : State) : Host.Outcome State Fault Refusal :=
  match i with
  | .pinReset => Sys2Proof.Machine.execPinReset s
  | .resetRelease lns adr => Sys2Proof.Machine.execResetRelease lns adr s
  | .lineStart f => Sys2Proof.Machine.execLineStart f s
  | .connectRequest f => Sys2Proof.Machine.execConnectRequest f s
  | .connectCancel f => Sys2Proof.Machine.execConnectCancel f s
  | .connectDone f => Sys2Proof.Machine.execConnectDone f s
  | .feedHold f => Sys2Proof.Machine.execFeedHold f s
  | .feedRelease f => Sys2Proof.Machine.execFeedRelease f s
  | .lineStop f => Sys2Proof.Machine.execLineStop f s
  | .burnoutDone f => Sys2Proof.Machine.execBurnoutDone f s
  | .lineTrip f => Sys2Proof.Machine.execLineTrip f s
  | .tripReset f => Sys2Proof.Machine.execTripReset f s
  | .startupFeed f => Sys2Proof.Machine.execStartupFeed f s
  | .sourceSelect f => Sys2Proof.Machine.execSourceSelect f s
  | .manualStroke f => Sys2Proof.Machine.execManualStroke f s
  | .faultClear f => Sys2Proof.Machine.execFaultClear f s
  | .lineRead f => Sys2Proof.Machine.execLineRead f s
  | .generatorRead f => Sys2Proof.Machine.execGeneratorRead f s
  | .headerState f => Sys2Proof.Machine.execHeaderState f s
  | .turbineState f => Sys2Proof.Machine.execTurbineState f s
  | .dispatchRead f => Sys2Proof.Machine.execDispatchRead f s
  | .sample f => Sys2Proof.Machine.execSample f s
  | .doseOverride f => Sys2Proof.Machine.execDoseOverride f s
  | .doseAuto f => Sys2Proof.Machine.execDoseAuto f s
  | .dosingRead f => Sys2Proof.Machine.execDosingRead f s
  | .ledgerRead f => Sys2Proof.Machine.execLedgerRead f s
  | .clockSet f => Sys2Proof.Machine.execClockSet f s
  | .scheduleAdd f => Sys2Proof.Machine.execScheduleAdd f s
  | .scheduleWithdraw f => Sys2Proof.Machine.execScheduleWithdraw f s
  | .scheduleRead f => Sys2Proof.Machine.execScheduleRead f s
  | .auxSet f => Sys2Proof.Machine.execAuxSet f s
  | .configWrite f => Sys2Proof.Machine.execConfigWrite f s
  | .configRead f => Sys2Proof.Machine.execConfigRead f s
  | .budgetLoad f => Sys2Proof.Machine.execBudgetLoad f s
  | .lockoutClear f => Sys2Proof.Machine.execLockoutClear f s
  | .flagsRead f => Sys2Proof.Machine.execFlagsRead f s
  | .maskWrite f => Sys2Proof.Machine.execMaskWrite f s
  | .notifyMode f => Sys2Proof.Machine.execNotifyMode f s
  | .unknownKindRequest kind f => Sys2Proof.Machine.execUnknownKindRequest kind f s
  | .telegramIgnored kind f => Sys2Proof.Machine.execTelegramIgnored kind f s
  | .telegramDiscard d => Sys2Proof.Machine.execTelegramDiscard d s
  | .busGapDiscard => Sys2Proof.Machine.execBusGapDiscard s
  | .receiverReset => Sys2Proof.Machine.execReceiverReset s
  | .recoveryEnd => Sys2Proof.Machine.execRecoveryEnd s
  | .answerSend => Sys2Proof.Machine.execAnswerSend s
  | .answerDone => Sys2Proof.Machine.execAnswerDone s
  | .answerCollision readBack => Sys2Proof.Machine.execAnswerCollision readBack s
  | .strokeCompleteEdge l g e => Sys2Proof.Machine.execStrokeCompleteEdge l g e s
  | .strokeMaxLapse l g => Sys2Proof.Machine.execStrokeMaxLapse l g s
  | .pulseComplete l c => Sys2Proof.Machine.execPulseComplete l c s
  | .countdownExpiry l g => Sys2Proof.Machine.execCountdownExpiry l g s
  | .steamPulse l e => Sys2Proof.Machine.execSteamPulse l e s
  | .headerStale => Sys2Proof.Machine.execHeaderStale s
  | .turbineSilent => Sys2Proof.Machine.execTurbineSilent s
  | .turbineLost => Sys2Proof.Machine.execTurbineLost s
  | .connectTimeout => Sys2Proof.Machine.execConnectTimeout s
  | .notifyPulseEnd st => Sys2Proof.Machine.execNotifyPulseEnd st s
  | .slotClose => Sys2Proof.Machine.execSlotClose s
  | .minuteEvent => Sys2Proof.Machine.execMinuteEvent s
  | .holdEnd => Sys2Proof.Machine.execHoldEnd s
  | .busRested => Sys2Proof.Machine.execBusRested s
  | .noiseBurst => Sys2Proof.Machine.execNoiseBurst s

end Sys2Proof.Machine
end

