-- ==== Sys2Proof/Machine/Tick.lean ====
section
/-! DEFINITION. The pacing tick, which the part makes when no command waits (R49, R50, R100; DESIGN CHOICE, log 1): the
counts move, and the events that come about with it are put on the queue. -/

namespace Sys2Proof.Machine

/-! ### What a quiet 10 ms brings about at the bus and the notify lines -/

/-- The receiver's events of 10 ms without a dominant level from outside (R164 to R166, R169). -/
def quietReceiver (b : BusPort) : List Instr :=
  match b.receiver with
  | .idle => []
  | .receiving => [.busGapDiscard]
  | .answering => if b.sending then [.answerDone] else [.answerSend, .answerDone]
  | .recovering => [.recoveryEnd]

/-- The bus has rested after 10 ms (R164). -/
def quietRest (b : BusPort) : List Instr :=
  if b.receiver = .idle ∧ b.idleCount = 20 then [] else [.busRested]

/-- The notify pulses that end within 10 ms (R182). -/
def quietPulses (s : State) : List Instr :=
  (allStations.filter (fun st => decide ((s.flags.get st).pulseLeft ≠ 0))).map Instr.notifyPulseEnd

/-- The events of a quiet 10 ms, in order. -/
def quietEvents (s : State) : List Instr :=
  quietReceiver s.bus ++ quietRest s.bus ++ quietPulses s

/-! ### The counts -/

/-- A countdown falls by one; the fall from 1 to 0 is the expiry, an event of its own (R100). -/
def GenRecord.countDown (g : GenRecord) : GenRecord :=
  match g.run, g.countdown with
  | .running, some (c + 2) => { g with countdown := some (c + 1) }
  | _, _ => g

/-- The countdowns of a line. -/
def countDownLine (t : PerGen GenRecord) : PerGen GenRecord :=
  ⟨t.feed.countDown, t.z1.countDown, t.z2.countDown, t.z3.countDown, t.nox.countDown, t.acid.countDown⟩

/-- The countdowns of all generators. -/
def countDownAll (s : State) : State :=
  { s with gens := ⟨countDownLine s.gens.a, countDownLine s.gens.b, countDownLine s.gens.c⟩ }

/-- The tick count rises by one and wraps (R49). -/
def countTick (s : State) : State :=
  { s with time := { s.time with tick := s.time.tick + 1 } }

/-- The clock's part of a tick: a hold falls by one, its last tick being HOLD_END; else the time of day moves on, and the
boundaries it reaches become due (R50, R55, R56). -/
def clockTick (s : State) : State :=
  match s.time.clock.hold with
  | 0 => reachBoundary (moveClock 1 s)
  | 1 => s
  | h + 2 => s.setClock { s.time.clock with hold := h + 1 }

/-! ### The events that come about -/

/-- Generators by line. -/
def allLineGens : List (Line × Gen) :=
  allLines.flatMap (fun l => allGens.map (fun k => (l, k)))

/-- The stroke generators of a line. -/
def allStrokes : List StrokeGen := [.feed, .z1, .z2, .z3]

/-- Expiries due (R100). -/
def dueExpiries (s : State) : List Instr :=
  (allLineGens.filter (fun x => s.expires x.1 x.2)).map (fun x => Instr.countdownExpiry x.1 x.2)

/-- Lapses of stroke_max due (R106). -/
def dueLapses (s : State) : List Instr :=
  allLines.flatMap (fun l =>
    (allStrokes.filter (s.strokeLapsed l)).map (fun g => Instr.strokeMaxLapse l g))

/-- Pulses complete (R113). -/
def duePulses (s : State) : List Instr :=
  allLines.flatMap (fun l =>
    (([.nox, .acid] : List Channel).filter (s.pulseLapsed l)).map (fun c => Instr.pulseComplete l c))

/-- An event when it has come about. -/
def dueIf (b : Bool) (i : Instr) : List Instr := if b then [i] else []

/-- The timers' and the clock's events due (R18, R25, R55, R56, R66). -/
def dueTimers (s : State) : List Instr :=
  dueIf s.headerExpired .headerStale ++ dueIf s.turbineQuiet .turbineSilent ++
    dueIf s.turbineGone .turbineLost ++ dueIf s.connectExpired.isSome .connectTimeout ++
    dueIf s.time.slotDue .slotClose ++ dueIf s.time.minuteDue .minuteEvent

/-! ### The tick -/

/-- Events put on the queue behind those that wait. -/
def enqueue (is : List Instr) (s : State) : State := { s with pending := s.pending ++ is }

/-- Events put on the queue in an order the spec leaves open (log 2). -/
def enqueueShuffled (is : List Instr) (s : State) : State := enqueue (shuffle is s).1 (shuffle is s).2

/-- The tick of a running part whose clock events are all taken. An expiry due is found before the countdowns fall, so that
a countdown that has just reached 1 has its full tick. -/
def runTick (s : State) : State :=
  let expiries := dueExpiries s
  let holdEnds := dueIf (decide (s.time.clock.hold = 1)) .holdEnd
  let s := enqueue (quietEvents s) s
  let s := clockTick (countTick (countDownAll s))
  enqueueShuffled (expiries ++ dueLapses s ++ duePulses s ++ dueTimers s ++ holdEnds) s

/-- One pacing tick with nothing commanded: none while RESET is low (R175, R177), and none before the clock events already
due are taken. -/
def idleTick (s : State) : State :=
  if s.pins.resetLow then s
  else if s.time.slotDue ∨ s.time.minuteDue then
    enqueueShuffled (dueIf s.time.slotDue .slotClose ++ dueIf s.time.minuteDue .minuteEvent) s
  else runTick s

end Sys2Proof.Machine
end

