-- ==== Sys2Proof/Safety.lean ====
section
/-! DEFINITION. What holds in every sound state of the part, in the terms the statements use. Each predicate is one
sentence of the manual about the whole part. -/

namespace Sys2Proof.Machine

/-- The allocation record balances, D_s stays below the ceiling and B below the bypass maximum (R29, R38); the shedding
order names every line (R48). -/
def AllocationSound (s : State) : Prop :=
  (∀ l, l ∈ s.config.plant.shedOrder) ∧
  s.alloc.record.assigned.sum =
    s.alloc.record.target + s.alloc.record.bypass + s.alloc.record.served ∧
  s.alloc.record.target ≤ s.sched.ceiling ∧
  s.alloc.record.bypass ≤ s.config.plant.bypassMax

/-- The connect queue holds exactly the lines in CONNECT_PENDING, each once, and the connect slot is held by exactly the
line in CONNECTING (R21). -/
def ConnectSound (s : State) : Prop :=
  s.registry.queue.Nodup ∧
  (∀ l, l ∈ s.registry.queue ↔ s.lineState l = .connectPending) ∧
  (∀ l, s.registry.slot.map ConnectSlot.line = some l ↔ s.lineState l = .connecting)

/-- A line has hold reasons exactly in HOLD, and SHED among them exactly while it stands in the shed set (R2, R6, R39). -/
def HoldSound (s : State) : Prop :=
  ∀ l, ((s.line l).reasons.isEmpty = false ↔ s.lineState l = .hold) ∧
    ((s.line l).returnTo.isSome = true ↔ s.lineState l = .hold) ∧
    s.alloc.shed.get l = (s.line l).reasons.shed

/-- The line registry and the shed set agree with the line states. -/
def RegistrySound (s : State) : Prop := ConnectSound s ∧ HoldSound s

/-- A line with lockout set is in BURNOUT, OFFLINE or TRIPPED (R148). -/
def LockoutSound (s : State) : Prop :=
  ∀ l, (s.monitor.get l).lockout = true →
    s.lineState l = .burnout ∨ s.lineState l = .offline ∨ s.lineState l = .tripped

/-- Every line's throttle lies between its floor and 1000, and its budget used never exceeds its allowance (R139,
R144). -/
def MonitorSound (s : State) : Prop :=
  ∀ l, (s.lineConfig l).throttleFloor ≤ (s.monitor.get l).throttle ∧ (s.monitor.get l).throttle ≤ 1000 ∧
    (s.monitor.get l).budgetUsed ≤ (s.lineConfig l).allowance

/-- A dosing channel's rate is 0 while its line is OFFLINE or TRIPPED, and never exceeds its rate_max (R154). -/
def DoseSound (s : State) : Prop :=
  ∀ l c, (s.dose l c).rate ≤ (s.dosingConfig l c).rateMax ∧
    ((s.lineState l).doses = false → (s.dose l c).rate = 0)

/-- A generator that runs or idles has source AUTO and a line state that permits it; one without permission is STOPPED or
in FAULT (R95). -/
def PermissionSound (s : State) : Prop :=
  ∀ l k, (s.gen l k).permitted = true → (s.gen l k).source = .auto ∧ (s.lineState l).permits k = true

/-- Concentrations stored, sums and counts of the running blocks, and the length of the histories stay in their ranges
(R117, R120, R123, R128). -/
def LedgerSound (s : State) : Prop :=
  ∀ l p, ((s.ledger.get l).channels.get p).count ≤ (s.ledger.get l).nOp ∧
    ((s.ledger.get l).channels.get p).sum ≤ 65535 * ((s.ledger.get l).channels.get p).count ∧
    ((s.ledger.get l).channels.get p).history.length ≤ 48 ∧
    ∀ x v, (s.ledger.get l).store = some x → x.values.get p = some v → v ≤ 65535

/-- The clock shows a time of day, and the hold remaining lies in 0..3000 (R50, R53). -/
def ClockSound (s : State) : Prop :=
  s.time.clock.minute < 1440 ∧ s.time.clock.second < 60 ∧ s.time.clock.hundredth < 100 ∧
    s.time.clock.hold ≤ 3000

/-- The schedule queue holds at most 24 blocks, strictly ascending, each in its ranges and later than the present, and none
while the clock is invalid (R59). -/
def ScheduleSound (s : State) : Prop :=
  s.sched.queue.length ≤ 24 ∧
  s.sched.queue.Pairwise (fun x y => startBefore x.day x.start y.day y.start = true) ∧
  (∀ b ∈ s.sched.queue, b.inRange = true ∧ b.due s.presentMinute = false) ∧
  (s.time.clock.valid = false → s.sched.queue = [])

/-- No answer's payload, waiting or held in a snapshot, exceeds 48 bytes (R170). -/
def AnswerSound (s : State) : Prop :=
  (∀ a, s.bus.answer = some a → a.payload.length ≤ 48) ∧
  ∀ st x, s.bus.snapshots.get st = some x → x.part0.length ≤ 48 ∧ x.part1.length ≤ 48

/-! ### Requests -/

/-- A unicast request that the receiver takes and that passes the checks of the bus port: of kind `k`, sent by station
`st`, and for line `l` where the kind names a line (R164, R167, R170, R171). -/
structure Reaches (k : Kind) (f : Frame) (st : Station) (l : Line) (s : State) : Prop where
  running : s.pins.resetLow = false
  listening : s.bus.receives = true
  unicast : f.dst = s.bus.address
  foreign : f.src ≠ s.bus.address
  sender : stationOfNumber f.src.toNat = some st
  right : granted k st = true
  length : lengthAllowed k f.payload.length = true
  line : ∀ n, lineNamed k f = some n → lineAllowed s st n = true ∧ lineOfNumber n = some l

/-- A broadcast of one of the three kinds taken from broadcast, from its one station (R167). -/
structure ReachesAll (k : Kind) (f : Frame) (s : State) : Prop where
  running : s.pins.resetLow = false
  listening : s.bus.receives = true
  broadcast : f.dst = 0#8
  notOwn : s.bus.address ≠ 0#8
  foreign : f.src ≠ s.bus.address
  taken : broadcastTaken k f.src = true
  length : lengthAllowed k f.payload.length = true

/-- The bus port while the answer to a request waits for its window (R169). -/
def BusPort.answering (b : BusPort) (kind : Byte) (f : Frame) (c : Code) (payload : List Byte) : BusPort :=
  { b with
    receiver := .answering
    idleCount := restCount (checkByte (telegramBody kind f))
    inProgress := []
    answer := some ⟨f.src, kind, c, payload⟩
    sending := false }

/-- The bus port after a telegram that has no answer (R167). -/
def BusPort.passed (b : BusPort) (kind : Byte) (f : Frame) : BusPort :=
  b.settled (restCount (checkByte (telegramBody kind f)))

/-! ### Answers -/

/-- The payload of the answer in the buffer. -/
def State.payload (s : State) : List Byte :=
  match s.bus.answer with
  | some a => a.payload
  | none => []

/-- What a station's snapshot holds for part 1 (R184). -/
def State.heldPart (s : State) (st : Station) : List Byte :=
  match s.bus.snapshots.get st with
  | some x => x.part1
  | none => []

/-- The bus port with a station's snapshot replaced (R184). -/
def BusPort.holding (b : BusPort) (st : Station) (x : Snapshot) : BusPort :=
  { b with snapshots := b.snapshots.set st (some x) }

/-! ### Frames -/

/-- Two states differ at most in the bus port, the flags and one line's own records: its line record, feed record,
generators and dosing channels. -/
structure LineOnly (l : Line) (s t : State) : Prop where
  rest : { t with
    bus := s.bus
    flags := s.flags
    registry := { t.registry with lines := s.registry.lines }
    feed := s.feed
    gens := s.gens
    dosing := s.dosing } = s
  line : ∀ k, k ≠ l → t.line k = s.line k
  feed : ∀ k, k ≠ l → t.feed.get k = s.feed.get k
  gens : ∀ k, k ≠ l → t.gens.get k = s.gens.get k
  dosing : ∀ k, k ≠ l → t.dosing.get k = s.dosing.get k

/-- Two states differ at most in the bus port, the flags and what a recomputation of the allocation reaches: registry,
allocator, scheduler, feed records, generators and dosing channels. -/
def PlantOnly (s t : State) : Prop :=
  { t with
    bus := s.bus
    flags := s.flags
    registry := s.registry
    alloc := s.alloc
    sched := s.sched
    feed := s.feed
    gens := s.gens
    dosing := s.dosing } = s

/-- Two states differ at most in the bus port and the flags. -/
def FlagsOnly (s t : State) : Prop := { t with bus := s.bus, flags := s.flags } = s

/-- No flag is cleared, no flag but those of `A` is set, and no mask, mode or polarity moves. -/
def FlagsKept (A : Flag → Prop) (s t : State) : Prop :=
  ∀ st, (t.flags.get st).mask = (s.flags.get st).mask ∧ (t.flags.get st).mode = (s.flags.get st).mode ∧
    (t.flags.get st).polarity = (s.flags.get st).polarity ∧
    ∀ n, ((s.flags.get st).flags.getLsbD n = true → (t.flags.get st).flags.getLsbD n = true) ∧
      ((∀ f, A f → f.station = st → f.pos ≠ n) →
        (t.flags.get st).flags.getLsbD n = (s.flags.get st).flags.getLsbD n)

/-- The flags that a recomputation of the allocation may set (R29, R38, R44 to R46, R154). -/
def allocFlags : Flag → Prop
  | .stateChanged _ | .assignmentChanged _ | .targetChanged | .bypassActive | .shortfall | .shed | .dosingLimit => True
  | _ => False

/-! ### Further sentences about the whole part -/

/-- While RESET is held low every record stands at its reset value (R177). -/
def ResetHeld (s : State) : Prop := s.pins.resetLow = true → s = heldInReset s

/-- Every generator's current and buffered period lies within its period limits, its countdown within 1 and period_max + 1,
its trim accumulator within 0..63; the limits are in order, and a generator of an OFFLINE line has an empty buffer and
no countdown (R99, R100, R116). -/
def PeriodSound (s : State) : Prop :=
  ∀ l k, 50 ≤ (s.genConfig l k).periodMin ∧ (s.genConfig l k).periodMin ≤ (s.genConfig l k).periodMax ∧
    (∀ q, (s.gen l k).current = some q ∨ (s.gen l k).buffer = .period q →
      (s.genConfig l k).periodMin * 64 ≤ q ∧ q ≤ (s.genConfig l k).periodMax * 64) ∧
    (∀ c, (s.gen l k).countdown = some c → 1 ≤ c ∧ c ≤ (s.genConfig l k).periodMax + 1) ∧
    (s.gen l k).trimAcc < 64 ∧
    (s.lineState l = .offline → (s.gen l k).buffer = .empty ∧ (s.gen l k).countdown = none)

/-- A generator in FAULT is a stroke generator at REST, with no countdown, no pending stroke and an empty buffer (R94, R109). -/
def FaultSound (s : State) : Prop :=
  ∀ l k, (s.gen l k).run = .fault → (asStroke k).isSome = true ∧ (s.gen l k).phase = .rest ∧
    (s.gen l k).countdown = none ∧ (s.gen l k).pending = false ∧ (s.gen l k).buffer = .empty

/-- A generator with a stroke or pulse waiting is RUNNING, with one in flight before it (R97, R98, R100, R101, R109). -/
def PendingSound (s : State) : Prop :=
  ∀ l k, (s.gen l k).pending = true → (s.gen l k).run = .running ∧ (s.gen l k).phase = .active

/-- Whether a flag is a condition flag (11.4). -/
def Flag.isCondition : Flag → Bool
  | .clearToConnect _ | .jam _ | .throttled _ | .lockout _ | .steamDeviation _ => true
  | .bypassActive | .shortfall | .headerStaleTurbine | .episodeOpen | .dosingLimit => true
  | .scheduleLow | .shed | .headerStaleSupervisory | .turbineSilent | .clockInvalid | .configIncomplete => true
  | .restarted _ | .stateChanged _ | .assignmentChanged _ | .strokeFault _ | .overrun _ | .targetChanged => false
  | .sampleMissing | .blockTaken | .episodeOpened | .forcedBurnout | .dayClosed | .dayExceeded | .busFault => false

/-- A station's set holds only flags of its catalogue, positions outside it are masked, only conditions hold and a flag whose
condition holds is set, and a LEVEL line has no pulse (R176, R179, R180). -/
def FlagSound (s : State) : Prop :=
  ∀ st, (s.flags.get st).flags &&& ~~~ catalogue st = 0#16 ∧
    (s.flags.get st).mask ||| catalogue st = 0xFFFF#16 ∧
    (s.flags.get st).holds &&& ~~~ (s.flags.get st).flags = 0#16 ∧
    ((s.flags.get st).mode = .level → (s.flags.get st).pulseLeft = 0) ∧
    ∀ x : Flag, x.station = st → x.isCondition = false → s.conditionHolds x = false

/-- The conditions of the catalogue hold exactly while what they name is so (R4, R18, R23, R39, R46, R50, R64, R66, R109,
R140, R142, R148, R161); STEAM_DEVIATION is decided at minute events alone (R20). -/
structure ConditionSound (s : State) : Prop where
  clearToConnect : ∀ l, s.conditionHolds (.clearToConnect l) = decide (s.lineState l = .connecting)
  jam : ∀ l, s.conditionHolds (.jam l) = s.anyFault l
  throttled : ∀ l, s.conditionHolds (.throttled l) = decide ((s.monitor.get l).throttle < 1000)
  lockout : ∀ l, s.conditionHolds (.lockout l) = (s.monitor.get l).lockout
  bypassActive : s.conditionHolds .bypassActive = decide (0 < s.alloc.record.bypass)
  shortfall : s.conditionHolds .shortfall = s.alloc.record.shortfall
  shed : s.conditionHolds .shed = (s.alloc.shed.a || s.alloc.shed.b || s.alloc.shed.c)
  episodeOpen : s.conditionHolds .episodeOpen = s.fittedLines.any (fun l => (s.monitor.get l).episodeOpen)
  dosingLimit : s.conditionHolds .dosingLimit = s.anyDosingLimit
  scheduleLow : s.conditionHolds .scheduleLow =
    (s.time.clock.valid && decide (0 < s.config.plant.lowWater) &&
      decide (s.sched.queue.length < s.config.plant.lowWater))
  turbineSilent : s.conditionHolds .turbineSilent = decide (s.sched.turbine.silence ≠ .reporting)
  headerStale : s.pins.resetLow = false →
    s.conditionHolds .headerStaleTurbine = s.registry.header.stale ∧
      s.conditionHolds .headerStaleSupervisory = s.registry.header.stale
  clockInvalid : s.pins.resetLow = false → s.conditionHolds .clockInvalid = !s.time.clock.valid
  configIncomplete : s.pins.resetLow = false →
    s.conditionHolds .configIncomplete = s.fittedLines.any (fun l => !s.configured l)

/-- The current-block mass of a line is its FEED strokes completed in the block times its stroke charge (R87). -/
def FeedMassSound (s : State) : Prop :=
  ∀ l, (s.feed.get l).mass = (s.feed.get l).strokes * (s.lineConfig l).strokeCharge

/-! ### The connect slot once it is free -/

/-- The header lets a waiting line connect: its record fresh, the pressure within the connect window, and no surge
(R23). -/
def State.headerOpen (s : State) : Bool :=
  !s.registry.header.stale && decide (s.config.plant.pLo ≤ s.registry.header.pressure) &&
    decide (s.registry.header.pressure ≤ s.config.plant.pHi) &&
    decide (s.registry.header.riseRate < (s.config.plant.surgeRate : Int))

/-- The slot was freed in `s` with queue `q` waiting, and the grant test has run in `t` (R23, R25): while the header is open
the head holds the slot, else the queue waits on. -/
def GrantRun (q : List Line) (s t : State) : Prop :=
  match s.headerOpen, q with
  | true, h :: rest =>
    t.registry.queue = rest ∧ t.lineState h = .connecting ∧ t.flagSet (.stateChanged h) = true ∧
      t.registry.slot = some ⟨h, s.now, s.config.plant.connectTimeout * 100⟩
  | true, [] => t.registry.queue = [] ∧ t.registry.slot = none
  | false, _ => t.registry.queue = q ∧ t.registry.slot = none

/-! ### The record after a recomputation -/

/-- The lines' division with a connected set, whole: what the passes of a recomputation come to (R29, R38). -/
def State.outcome (s : State) (conn : PerLine Bool) : Division × PerLine Bool :=
  s.divideShedding s.config.plant.shedOrder.reverse conn

/-- A recomputation of the inputs of `s` with the lines of `conn` CONNECTED stands in `t`: the record is that of the last
pass, the lines left over are CONNECTED, and the lines shed are in HOLD with SHED alone and return to CONNECTED (R29,
R38). That the revision count stands where a shedding leaves the record equal is log 23. -/
def Recomputed (conn : PerLine Bool) (s t : State) : Prop :=
  t.alloc.record = s.alloc.record.written (s.outcome conn).1 s.sched.mode ∧
  ∀ l, conn.get l = true →
    ((s.outcome conn).2.get l = true → t.lineState l = .connected) ∧
    ((s.outcome conn).2.get l = false →
      t.lineState l = .hold ∧ (t.line l).reasons = ⟨false, true, false⟩ ∧ (t.line l).returnTo = some .connected ∧
        t.alloc.shed.get l = true ∧ t.flagSet (.stateChanged l) = true)

/-- E_r has followed the admission target of `t` (R72): set to its power in STEAM_LED; in POWER_LED lowered to it where the
target stands below the demand char(E_r) of `s`. Nothing else of the scheduler moved. -/
def ExportFollows (s t : State) : Prop :=
  t.sched = { s.sched with
    ramped := match s.sched.mode with
      | .steamLed => invLookup s.config.plant t.alloc.record.target
      | .powerLed =>
        if t.alloc.record.target < charLookup s.config.plant s.sched.ramped then
          min s.sched.ramped (invLookup s.config.plant t.alloc.record.target)
        else s.sched.ramped }

/-! ### Periods handed, feed runs and dosing computations -/

/-- The current period once what is buffered is taken: a buffered period or a buffered none replaces it, an empty buffer
leaves it (R97, R98, R99, R100, R109). -/
def GenRecord.periodTaken (g : GenRecord) : Option Nat :=
  match g.buffer with
  | .empty => g.current
  | .none => none
  | .period q => some q

/-- The generator `g`, handed a period `q` or none, is `g'` after it, by its run state (R102). -/
def Handed (g : GenRecord) (q : Option Nat) (g' : GenRecord) : Prop :=
  (g.run = .stopped ∨ g.run = .fault → g' = { g with current := q, buffer := .empty }) ∧
  (g.run = .idle → (q = none → g' = g) ∧
    ∀ x, q = some x →
      g' = { g with run := .running, current := some x, countdown := some (x / 64), trimAcc := 0 }) ∧
  (g.run = .running → (q = none → g' = { g with buffer := .none }) ∧
    ∀ x, q = some x → ∀ c, g.countdown = some c →
      g' = (if x / 64 < c then { g with countdown := some (x / 64), current := some x, buffer := .empty }
        else { g with buffer := .period x }))

/-- A computation of a dosing channel from its record `r` on the inputs of `s` stands in `t` (R154 to R158, R161): where the
line doses, the fed-forward rate, the trim on it in AUTO, the limit, the period with its paced rate, the marks, and the
period handed; in OFFLINE and TRIPPED rate 0 and no marks, the fed-forward rate written all the same (log 15). -/
def DoseComputed (l : Line) (c : Channel) (r : DosingRecord) (s t : State) : Prop :=
  let cfg := s.dosingConfig l c
  let gc := s.genConfig l (channelGen c)
  let ff := (s.feed.get l).reference.getD 0 * cfg.kFf / 1000
  let before := if r.mode = .auto then ((ff : Int) * (1000 + r.trim) / 1000).toNat else r.overrideRate
  let rate := min before cfg.rateMax
  let q0 := 23040000 * cfg.pulseG / rate
  let q := max (gc.periodMin * 64) (min q0 (gc.periodMax * 64))
  (s.lineState l ≠ .offline → s.lineState l ≠ .tripped →
    t.dose l c = { r with
      ff := ff
      rate := rate
      period := if rate = 0 then none else some q
      paced := if rate = 0 then 0 else 23040000 * cfg.pulseG / q
      limits :=
        ⟨decide (0 < before) && decide (cfg.rateMax ≤ before), decide (r.mode = .auto) && decide (r.trim = cfg.trimLo),
          decide (r.mode = .auto) && decide (r.trim = cfg.trimHi), decide (rate ≠ 0) && decide (q0 < q),
          decide (rate ≠ 0) && decide (q < q0)⟩ } ∧
    Handed (s.gen l (channelGen c)) (t.dose l c).period (t.gen l (channelGen c))) ∧
  (s.lineState l = .offline ∨ s.lineState l = .tripped →
    t.dose l c = { r with ff := ff, rate := 0, limits := ⟨false, false, false, false, false⟩ } ∧
    t.gen l (channelGen c) = s.gen l (channelGen c)) ∧
  t.conditionHolds .dosingLimit = t.anyDosingLimit

/-- A run of the feed computation of a line on the inputs of `s` stands in `t` (R76 to R85). In a feeding state: the stages
from the start-up request, or in CONNECTED from the assignment and the heat value, the reference feed, the feeder and
zone periods with their clamps, the paced feed, and the periods handed; a changed reference feed goes to the dosing
computation (R81). In HOLD, BURNOUT and TRIPPED the held mark alone; in OFFLINE nothing. -/
def FeedRunDone (l : Line) (s t : State) : Prop :=
  let cfg := s.lineConfig l
  let r := s.feed.get l
  let joined : Bool := decide (s.lineState l = .connected)
  let m1 :=
    if joined then s.alloc.record.assigned.get l * 100 * cfg.enthalpyRise * 1000 / (cfg.efficiency * r.lhv)
    else (s.line l).startupRequest
  let m2 := min m1 (if joined then cfg.feedMax else cfg.startupFeedMax)
  let m3 := m2 * (s.monitor.get l).throttle / 1000
  let m4 := if joined then max m3 cfg.feedMin else m3
  let bound (k : Gen) (q : Nat) : Nat :=
    max ((s.genConfig l k).periodMin * 64) (min q ((s.genConfig l k).periodMax * 64))
  let mark (q0 q : Nat) : ClampState := if q0 < q then .atPmin else if q < q0 then .atPmax else .within
  let q0 := 23040000 * cfg.strokeCharge / m4
  let q := bound .feed q0
  let z (k : Gen) : Nat := q * (s.genConfig l k).zoneRatio / 100
  let zone (k : Gen) : Nat := bound k (z k)
  ((s.lineState l).feeding = true →
    t.feed.get l = { r with
      m1 := m1
      m4 := m4
      capped := decide (m2 < m1)
      throttled := decide (m3 < m2)
      raised := decide (m3 < m4)
      held := false
      reference := if m4 = 0 then r.reference else some m4
      periods := if m4 = 0 then ⟨none, none, none, none⟩ else
        ⟨some q, some (zone .z1), some (zone .z2), some (zone .z3)⟩
      clamps := if m4 = 0 then ⟨.within, .within, .within, .within⟩ else
        ⟨mark q0 q, mark (z .z1) (zone .z1), mark (z .z2) (zone .z2), mark (z .z3) (zone .z3)⟩
      paced := if m4 = 0 then 0 else 23040000 * cfg.strokeCharge / q } ∧
    Handed (s.gen l .feed) (t.feed.get l).periods.feed (t.gen l .feed) ∧
    Handed (s.gen l .z1) (t.feed.get l).periods.z1 (t.gen l .z1) ∧
    Handed (s.gen l .z2) (t.feed.get l).periods.z2 (t.gen l .z2) ∧
    Handed (s.gen l .z3) (t.feed.get l).periods.z3 (t.gen l .z3) ∧
    ((t.feed.get l).reference = r.reference →
      t.dosing = s.dosing ∧ ∀ c, t.gen l (channelGen c) = s.gen l (channelGen c)) ∧
    ((t.feed.get l).reference ≠ r.reference →
      ∀ c, DoseComputed l c (s.dose l c) { s with feed := t.feed } t)) ∧
  (s.lineState l = .hold ∨ s.lineState l = .burnout ∨ s.lineState l = .tripped →
    t.feed.get l = { r with held := true } ∧ t.gens = s.gens ∧ t.dosing = s.dosing) ∧
  (s.lineState l = .offline → t.feed = s.feed ∧ t.gens = s.gens ∧ t.dosing = s.dosing)

/-! ### What a block close does beyond the ledger (R57) -/

/-- The array handed on its block counts of every line with a close of `s`, and restarted them (R56, R113, R114). -/
def BlockCountsRestarted (s t : State) : Prop :=
  ∀ l, t.counters.get l = { s.counters.get l with blockCount := 0 } ∧
    (t.gen l .nox).blockPulses = 0 ∧ (t.gen l .acid).blockPulses = 0

/-- The throttle of a line after the throttle law on its block results, with the cap of an episode OPEN before the close
(R138, R139). -/
def State.lawfulThrottle (s : State) (l : Line) (result : Pollutant → BlockStatus) : Nat :=
  let m := s.monitor.get l
  let cfg := s.lineConfig l
  let warned : Bool := allPollutants.any (fun p => (s.ledgerConfig l p).throttlesFeed &&
    match result p with
    | .valid x => decide ((s.ledgerConfig l p).periodLimit * cfg.warn < x * 1000)
    | _ => false)
  let bad : Bool := allPollutants.any (fun p => (s.ledgerConfig l p).throttlesFeed && decide (result p = .invalid))
  let law :=
    if warned then max cfg.throttleFloor (m.throttle - cfg.stepDown)
    else if m.episodeOpen = false ∧ bad = false then min 1000 (m.throttle + cfg.stepUp)
    else m.throttle
  if m.episodeOpen then max cfg.throttleFloor (min law cfg.episodeThrottle) else law

/-- The feed computation unit took a block close for a line: the mass ring shifts (R87), and the heat value of an operating
line takes its estimate (R88, R89). -/
def EstimateTaken (l : Line) (s t : State) : Prop :=
  let d := s.feed.get l
  let d' := t.feed.get l
  let n := (s.counters.get l).blockCount
  let cfg := s.lineConfig l
  let steam := n * cfg.steamPulseQ
  let mass := if cfg.lhvLag = 0 then d.mass else if cfg.lhvLag = 1 then d.massPrev else d.massPrev2
  let v := max 5000 (min 18000 (steam * cfg.enthalpyRise * 1000 / (cfg.efficiency * mass)))
  d'.strokes = 0 ∧ d'.mass = 0 ∧ d'.massPrev = d.mass ∧ d'.massPrev2 = d.massPrev ∧
  (s.lineState l = .offline → d'.lhv = d.lhv) ∧
  (s.lineState l ≠ .offline → d'.blockSteam = n ∧
    (mass < 3 * cfg.strokeCharge → d'.outcome = .heldMass ∧ d'.blockValue = none ∧ d'.lhv = d.lhv) ∧
    (3 * cfg.strokeCharge ≤ mass → steam = 0 →
      d'.outcome = .heldSteam ∧ d'.blockValue = none ∧ d'.lhv = d.lhv) ∧
    (3 * cfg.strokeCharge ≤ mass → steam ≠ 0 → d'.outcome = .updated ∧ d'.blockValue = some v ∧
      (d'.lhv : Int) = max 5000 (min 18000 ((d.lhv : Int) + (((v : Int) - d.lhv) * cfg.lhvWeight).tdiv 16))))

/-- The dosing computation took a block close for a line with its block results: the last block doses are weighed (R160),
and the trims of an operating line take the trim law (R159). -/
def TrimsTaken (l : Line) (result : Pollutant → BlockStatus) (s t : State) : Prop :=
  let error (p : Pollutant) (setpoint : Nat) : Option Int :=
    match result p with
    | .valid m => some ((m : Int) - setpoint)
    | _ => none
  ∀ c,
    let x := s.dose l c
    let x' := t.dose l c
    let cfg := s.dosingConfig l c
    let e : Option Int := match c with
      | .nox => error .nox cfg.setpoint
      | .acid =>
        match error .so2 cfg.setpointSo2, error .hcl cfg.setpointHcl with
        | some y, some z => some (max y z)
        | some y, none => some y
        | none, z => z
    x'.lastDose = (s.gen l (channelGen c)).blockPulses * cfg.pulseG ∧
    (s.lineState l = .offline → x'.trim = x.trim) ∧
    (s.lineState l ≠ .offline →
      (x.mode = .override → x'.trim = x.trim ∧ x'.trimOutcome = .heldOverride) ∧
      (x.mode = .auto → e = none → x'.trim = x.trim ∧ x'.trimOutcome = .heldNoValid) ∧
      (∀ y, e = some y → x.mode = .auto →
        x'.trim = max cfg.trimLo (min (x.trim + (y * cfg.kt).tdiv 1000) cfg.trimHi) ∧
        x'.trimOutcome = .updated ∧ x'.lastError = some y))

/-! ### What the owners of a parameter do at a write of it (R173) -/

/-- SCHEDULE_LOW as R64 has it. -/
def State.lowNow (s : State) : Bool :=
  s.time.clock.valid && decide (0 < s.config.plant.lowWater) &&
    decide (s.sched.queue.length < s.config.plant.lowWater)

/-- A PLANT write of the parameters numbered `ns` took `s` to `t`. The connect window's parameters run the grant test (R23,
R26); aux_max lowers a held demand above it, and this or a write of bypass_max runs a recomputation (R43, R48);
turbine_max decides ceiling and mode, and a change of either runs one, in POWER_LED with a demand (R30, R67, R68, R74);
low_water decides SCHEDULE_LOW (R64, R74); a new table sets E_r to inv(D_s) (R70). The record is stated where one of the
two, allocator or scheduler, runs a recomputation, and where neither does. -/
def PlantWritten (ns : List Nat) (s t : State) : Prop :=
  let plant := t.config.plant
  let u := s.sched.turbine
  let running : Bool := decide (u.effective = .runUp) || decide (u.effective = .onGrid)
  let header : Bool := ns.contains 1 || ns.contains 2 || ns.contains 3
  let lowered : Bool := ns.contains 7 && decide (plant.auxMax < s.alloc.aux)
  let asks : Bool := ns.contains 5 || lowered
  let ceiling := if ns.contains 6 then (if running then min plant.turbineMax u.limit else 0) else s.sched.ceiling
  let mode := if ns.contains 6 then
    (if s.sched.active.isSome = true ∧ u.effective = .onGrid then .powerLed else .steamLed) else s.sched.mode
  let moved : Bool := decide (ceiling ≠ s.sched.ceiling) || decide (mode ≠ s.sched.mode)
  let table : Bool := ns.any (fun n => decide (16 ≤ n))
  let s' : State := { s with
    config := t.config
    alloc := { s.alloc with aux := if lowered then plant.auxMax else s.alloc.aux }
    sched := { s.sched with
      ceiling := ceiling
      mode := mode
      handed := if moved = true ∧ mode = .powerLed then charLookup plant s.sched.ramped else s.sched.handed } }
  (header = true → s.registry.slot = none → GrantRun s.registry.queue s' t) ∧
  (header = false ∨ s.registry.slot ≠ none →
    t.registry.queue = s.registry.queue ∧ t.registry.slot = s.registry.slot) ∧
  t.alloc.aux = s'.alloc.aux ∧ t.sched.ceiling = ceiling ∧ t.sched.mode = mode ∧
  t.sched.queue = s.sched.queue ∧ t.sched.active = s.sched.active ∧ t.sched.turbine = u ∧
  (ns.contains 10 = true → t.conditionHolds .scheduleLow = t.lowNow) ∧
  (asks = false → moved = false → t.alloc = s.alloc ∧
    t.sched = { s.sched with
      ramped := if table then invLookup plant s.alloc.record.target else s.sched.ramped }) ∧
  (asks = !moved → table = false ∨ (ns.contains 6 = false ∧ s.sched.mode = .steamLed) →
    Recomputed s.connectedSet s' t ∧ ExportFollows s' t) ∧
  (table = true → ns.contains 6 = false → s.sched.mode = .steamLed →
    t.sched.ramped = invLookup plant t.alloc.record.target) ∧
  PlantOnly { s with config := t.config } { t with ties := s.ties, tieCount := s.tieCount } ∧
  FlagsKept (fun x => allocFlags x ∨ x = .configIncomplete ∨ x = .scheduleLow ∨ ∃ l, x = .clearToConnect l) s t

/-- A LINE write of the parameters numbered `ns` took `s` to `t`. The steam counter senses on the edge in force (R27); the
steam levels run a recomputation (R26, R30); stroke_charge restates the current mass and lhv_init the heat value, and the
parameters of the demand make a run (R87, R89, R92); floor and episode_throttle raise and cap the throttle (R139, R152),
a change of which is handed on (R140). Record and feed are stated where one recomputation runs, and where none does; that
a lowered floor may lower the throttle of an OPEN episode is log 20. -/
def LineWritten (l : Line) (ns : List Nat) (s t : State) : Prop :=
  let cfg := t.lineConfig l
  let m := s.monitor.get l
  let d := s.feed.get l
  let raised := max cfg.throttleFloor m.throttle
  let throttle :=
    if ns.contains 17 || ns.contains 21 then
      (if m.episodeOpen then max cfg.throttleFloor (min raised cfg.episodeThrottle) else raised)
    else m.throttle
  let asks : Bool := ns.contains 1 || ns.contains 2 || ns.contains 3
  let moved : Bool := decide (throttle ≠ m.throttle)
  let runs : Bool := ns.contains 8 || ns.contains 9 || ns.contains 12 || ns.contains 13 || ns.contains 14
  let d' : FeedRecord := { d with
    mass := if ns.contains 11 then d.strokes * cfg.strokeCharge else d.mass
    lhv := if ns.contains 10 then cfg.lhvInit else d.lhv }
  let s' : State := { s with config := t.config, monitor := t.monitor, feed := s.feed.set l d' }
  t.monitor = s.monitor.set l { m with throttle := throttle } ∧
  (moved = true → t.conditionHolds (.throttled l) = decide (throttle < 1000)) ∧
  t.counters = s.counters.set l { s.counters.get l with sensing := true, edge := cfg.steamPulseEdge } ∧
  (t.feed.get l).mass = d'.mass ∧ (t.feed.get l).lhv = d'.lhv ∧
  (asks = false → moved = false →
    t.registry = s.registry ∧ t.alloc = s.alloc ∧ t.sched = s.sched ∧ (∀ k, k ≠ l → t.feed.get k = s.feed.get k) ∧
    (runs = true → FeedRunDone l s' t) ∧
    (runs = false → t.feed = s'.feed ∧ t.gens = s.gens ∧ t.dosing = s.dosing)) ∧
  (asks = !moved → Recomputed s.connectedSet s' t ∧ ExportFollows s' t) ∧
  t.registry.queue = s.registry.queue ∧ t.registry.slot = s.registry.slot ∧
  PlantOnly { s with config := t.config, monitor := t.monitor, counters := t.counters }
    { t with ties := s.ties, tieCount := s.tieCount } ∧
  FlagsKept (fun x => allocFlags x ∨ x = .configIncomplete ∨ x = .throttled l) s t

/-- A GENERATOR write of the parameters numbered `ns` took `s` to `t`: the generator is configured (R93), and new period
limits clamp its current period (R116). Nothing else moves. -/
def GeneratorWritten (l : Line) (k : Gen) (ns : List Nat) (s t : State) : Prop :=
  let cfg := t.genConfig l k
  let g := s.gen l k
  t.gen l k = { g with
    configured := true
    current := if ns.contains 1 || ns.contains 2 then
      g.current.map (fun q => max (cfg.periodMin * 64) (min q (cfg.periodMax * 64))) else g.current } ∧
  { t.setGen l k g with bus := s.bus, flags := s.flags, config := s.config } = s ∧
  FlagsKept (· = .configIncomplete) s t

/-- A DOSING write of the parameters numbered `ns` took `s` to `t`: new trim limits clamp the trim, and k_ff, rate_max and
the trim limits make one computation (R163). Nothing else moves. -/
def DosingWritten (l : Line) (c : Channel) (ns : List Nat) (s t : State) : Prop :=
  let cfg := t.dosingConfig l c
  let r := s.dose l c
  let limits : Bool := ns.contains 8 || ns.contains 9
  let s' : State := { s with config := t.config }
  (ns.contains 1 = true ∨ ns.contains 3 = true ∨ limits = true →
    DoseComputed l c { r with trim := if limits then max cfg.trimLo (min r.trim cfg.trimHi) else r.trim } s' t) ∧
  (ns.contains 1 = false → ns.contains 3 = false → limits = false →
    t.dose l c = r ∧ t.gen l (channelGen c) = s.gen l (channelGen c)) ∧
  { (s'.setDose l c (t.dose l c)).setGen l (channelGen c) (t.gen l (channelGen c)) with
    bus := t.bus, flags := t.flags } = t ∧
  FlagsKept (fun x => x = .configIncomplete ∨ x = .dosingLimit) s t

/-! ### What the recipients of a minute event do (R56) -/

/-- The registry took a minute event with the pulse counts `n` (R19, R20): measured steam, deviation count and
STEAM_DEVIATION of every fitted line. -/
def RegistryTook (n : Line → Nat) (s t : State) : Prop :=
  (∀ l,
    let cfg := s.lineConfig l
    let r := s.line l
    let measured := if (s.counters.get l).sensing then min 65535 (n l * cfg.steamPulseQ * 60 / 100) else r.measured
    let assigned := s.alloc.record.assigned.get l
    let off := (measured - assigned) + (assigned - measured)
    let dev := if r.state = .connected ∧ cfg.devTol < off then min 255 (r.deviation + 1) else 0
    (s.fitted l = false → t.line l = r) ∧
    (s.fitted l = true → t.line l = { r with measured := measured, deviation := dev } ∧
      t.conditionHolds (.steamDeviation l) = decide (cfg.devMinutes ≤ dev))) ∧
  { t with flags := s.flags, registry := { t.registry with lines := s.registry.lines } } = s ∧
  FlagsKept (fun x => ∃ l, x = .steamDeviation l) s t

/-- The allocator took a minute event (R40, R30): of the shed lines the earliest in the shedding order is tried; with the
bypass of the trial at or below 8 tenths of bypass_max SHED leaves its reasons, and without another reason it returns to
CONNECTED; in every case one recomputation runs. -/
def AllocatorTook (s t : State) : Prop :=
  let tried := s.config.plant.shedOrder.find? s.alloc.shed.get
  let passes (l : Line) : Bool :=
    decide ((s.divide (s.connectedSet.set l true)).bypass ≤ s.config.plant.bypassMax * 8 / 10)
  let done (conn : PerLine Bool) : Prop := Recomputed conn s t ∧ ExportFollows s t
  (tried = none → done s.connectedSet) ∧
  (∀ l, tried = some l →
    (passes l = false → done s.connectedSet) ∧
    (passes l = true → s.lineState l = .hold →
      ((s.line l).reasons.requested = true ∨ (s.line l).reasons.jam = true →
        t.line l = { s.line l with reasons := { (s.line l).reasons with shed := false } } ∧
        t.alloc.shed.get l = false ∧ done s.connectedSet) ∧
      ((s.line l).reasons = ⟨false, true, false⟩ → (s.line l).returnTo = some .connected →
        t.line l = { s.line l with state := .connected, reasons := ⟨false, false, false⟩, returnTo := none } ∧
        t.alloc.shed.get l = false ∧ t.flagSet (.stateChanged l) = true ∧
        done (s.connectedSet.set l true)))) ∧
  t.sched = { s.sched with ramped := t.sched.ramped } ∧ t.registry.queue = s.registry.queue ∧ t.registry.slot = s.registry.slot ∧
  PlantOnly s t ∧ FlagsKept allocFlags s t

/-- The dispatch scheduler took a minute event (R63): the day shift at minute 0; the blocks due leave the queue, the latest
becoming active with BLOCK_TAKEN set and SCHEDULE_LOW decided (R64), else the active block loses a minute and ends with
its last; the mode (R68); in POWER_LED one ramp step (R71) and the demand char(E_r) handed, which runs a recomputation, as
does a change of mode; in STEAM_LED without a change none runs. -/
def SchedulerTook (s t : State) : Prop :=
  let minute := s.time.clock.minute
  let queue :=
    if minute = 0 then s.sched.queue.map (fun b => if b.day = 1 then { b with day := 0 } else b) else s.sched.queue
  let due (b : DispatchBlock) : Bool := decide (b.day = 0) && decide (b.start ≤ minute)
  let taken := (queue.filter due).getLast?
  let active : Option ActiveBlock := match taken, s.sched.active with
    | some b, _ => some ⟨b, b.duration⟩
    | none, some ⟨b, some n⟩ => if n ≤ 1 then none else some ⟨b, some (n - 1)⟩
    | none, a => a
  let mode : Mode :=
    if active.isSome = true ∧ s.sched.turbine.effective = .onGrid then .powerLed else .steamLed
  let er := s.sched.ramped
  let ramped := match mode, active with
    | .powerLed, some a =>
      if er < a.block.exportTarget then min a.block.exportTarget (er + a.block.rampLimit)
      else max a.block.exportTarget (er - a.block.rampLimit)
    | _, _ => er
  let s' : State := { s with sched := { s.sched with
    queue := queue.filter (fun b => !due b)
    active := active
    mode := mode
    ramped := ramped
    handed := if mode = .powerLed then charLookup s.config.plant ramped else s.sched.handed } }
  (mode = .powerLed ∨ mode ≠ s.sched.mode →
    Recomputed s.connectedSet s' t ∧ ExportFollows s' t ∧ t.registry.queue = s.registry.queue ∧
      t.registry.slot = s.registry.slot ∧ PlantOnly s t) ∧
  (mode = .steamLed → s.sched.mode = .steamLed → { t with flags := s.flags } = s') ∧
  (taken.isSome = true → t.flagSet .blockTaken = true ∧ t.conditionHolds .scheduleLow = t.lowNow) ∧
  FlagsKept (fun x => allocFlags x ∨ (taken.isSome = true ∧ (x = .blockTaken ∨ x = .scheduleLow))) s t

/-- A recipient of the minute event has taken it. -/
def MinuteTook (n : Line → Nat) : MinuteTask → State → State → Prop
  | .registry => RegistryTook n
  | .allocator => AllocatorTook
  | .scheduler => SchedulerTook

/-! ### A forward jump (R54) -/

/-- The boundary events due in `s` are taken by `t`, the close and the minute event in either order (R54, R57). -/
def BoundaryTaken (s t : State) : Prop :=
  ∃ ties n,
    let u : State := { s with ties := ties, tieCount := n }
    (∃ v, exec .slotClose u = .next v ∧ exec .minuteEvent v = .next t) ∨
      ∃ v, exec .minuteEvent u = .next v ∧ exec .slotClose v = .next t

/-- The clock of `s` stands at `c`, on a slot boundary, whose events are due while it is valid (R56). -/
def atBoundary (c : Clock) (s : State) : State :=
  { s with time := { s.time with clock := c, slotDue := c.valid, minuteDue := c.valid && decide (c.second = 0) } }

/-- The time of day of `s` moved forward by `n` ticks to `t`: at each slot boundary passed, every 1000 ticks of the day, the
close, and at each minute boundary the minute event, are taken while the clock is valid, in their order (R54, R56). -/
inductive Jumped : Nat → State → State → Prop
  | rest (n : Nat) (s : State) : s.time.clock.ticks % 1000 + n < 1000 →
      Jumped n s (s.setClock (s.time.clock.at (s.time.clock.ticks + n)))
  | boundary (n k : Nat) (s u t : State) : s.time.clock.ticks % 1000 + k = 1000 → k ≤ n →
      BoundaryTaken (atBoundary (s.time.clock.at (s.time.clock.ticks + k)) s) u →
      Jumped (n - k) u t → Jumped n s t

end Sys2Proof.Machine
end

