-- ==== Sys2Proof/Certificates/Slice0/Obligations.lean ====
section
/-! DEFINITION. The statements for the provers. Each docstring names the rules a statement formalises, and the log entry
where a clause rests on a choice of the model. -/

open Sys2Proof Sys2Proof.Machine

/-! ### Commands, ticks and reset -/

/-- One command is taken at a time, first in, first out (R170): a step with `c` in front is `exec c` on the state with the
queue's rest. -/
def Obligations.StepTakesFront : Prop :=
  ∀ (c : Instr) (s : State), step { s with pending := c :: s.pending } = exec c s

/-- With no command waiting, RESET high and no clock event due, a step is one pacing tick (the model's choice, log 1): the
tick count rises by one and wraps (R49); the time of day moves on and its boundaries become due while the clock is
valid, or the hold falls (R50, R55, R56); every countdown falls by one or its expiry is queued (R100). Queued as well, each
exactly when it falls due with the tick, are the lapse of stroke_max of a stroke in flight (R106), the end of a pulse
(R113), HEADER_STALE (R18), TURBINE_SILENT and TURBINE_LOST (R66), and CONNECT_TIMEOUT (R25). -/
def Obligations.IdleTick : Prop :=
  ∀ s : State, s.pending = [] → s.pins.resetLow = false → s.time.slotDue = false → s.time.minuteDue = false →
    ClockSound s →
    ∃ t, step s = .next t ∧
      t.time.tick = s.time.tick + 1 ∧
      (s.time.clock.hold = 0 →
        t.time.clock.ticks = (s.time.clock.ticks + 1) % 8640000 ∧ t.time.clock.hold = 0 ∧
        (t.time.slotDue = true ↔ s.time.clock.valid = true ∧ t.time.clock.ticks % 1000 = 0) ∧
        (t.time.minuteDue = true ↔ s.time.clock.valid = true ∧ t.time.clock.ticks % 6000 = 0) ∧
        (t.time.slotDue = true → Instr.slotClose ∈ t.pending) ∧
        (t.time.minuteDue = true → Instr.minuteEvent ∈ t.pending)) ∧
      (s.time.clock.hold = 1 → t.time.clock = s.time.clock ∧ Instr.holdEnd ∈ t.pending) ∧
      (1 < s.time.clock.hold → t.time.clock = { s.time.clock with hold := s.time.clock.hold - 1 }) ∧
      (∀ l k c, (s.gen l k).run = .running → (s.gen l k).countdown = some c →
        (2 ≤ c → t.gen l k = { s.gen l k with countdown := some (c - 1) }) ∧
        (c = 1 → t.gen l k = s.gen l k ∧ Instr.countdownExpiry l k ∈ t.pending)) ∧
      (∀ l k, (s.gen l k).run ≠ .running ∨ (s.gen l k).countdown = none → t.gen l k = s.gen l k) ∧
      (∀ l g, Instr.strokeMaxLapse l g ∈ t.pending ↔ (s.gen l (strokeGen g)).phase = .active ∧
        (s.gen l (strokeGen g)).limitMax ≤ t.elapsed (s.gen l (strokeGen g)).activeSince) ∧
      (∀ l c, Instr.pulseComplete l c ∈ t.pending ↔ (s.gen l (channelGen c)).phase = .active ∧
        (s.genConfig l (channelGen c)).pulseWidth ≤ t.elapsed (s.gen l (channelGen c)).activeSince) ∧
      (Instr.headerStale ∈ t.pending ↔
        s.registry.header.stale = false ∧ 500 ≤ t.elapsed s.registry.header.arrival) ∧
      (Instr.turbineSilent ∈ t.pending ↔
        s.sched.turbine.silence = .reporting ∧ 500 ≤ t.elapsed s.sched.turbine.arrival) ∧
      (Instr.turbineLost ∈ t.pending ↔
        s.sched.turbine.silence ≠ .lost ∧ 3000 ≤ t.elapsed s.sched.turbine.arrival) ∧
      (Instr.connectTimeout ∈ t.pending ↔
        ∃ x, s.registry.slot = some x ∧ x.timeout ≤ t.elapsed x.grantTick) ∧
      { t with pending := [], time := s.time, gens := s.gens, ties := s.ties, tieCount := s.tieCount } = s

/-- PIN_RESET from any state: every record takes its reset value (log 5 for what the spec gives at the release), and while
RESET is held low every flag of every station is clear and every notify line is driven high (R177); the levels at the
other inputs stand (log 5). -/
def Obligations.PinReset : Prop :=
  ∀ s : State, ∃ t, exec .pinReset s = .next t ∧
    t.pins = { s.pins with resetLow := true } ∧ t.pending = s.pending ∧
    { t with pending := [], pins := State.reset.pins, ties := [], tieCount := 0, freeCount := 0 } = State.reset ∧
    (∀ st, (t.flags.get st).flags = 0#16 ∧ t.notifyHigh st = true ∧ t.bus.snapshots.get st = none) ∧
    ∀ l, t.lineState l = .offline ∧
      ∀ k, (t.gen l k).run = .stopped ∧ (t.gen l k).source = .manual ∧ (t.gen l k).phase = .rest

/-- RESET_RELEASE of a part held in reset: the straps fit 1 to 3 lines in letter order, 0 fitting three (R1); the address is
8 plus the address straps (R167) and the idle count 0 (R175); the tick count starts at 0 (R49); masks, modes and
polarities are as after reset, RESTARTED is set for every station with the conditions that hold, and every notify line
is driven low (R177). With RESET high the command changes nothing (the model's choice, log 4). -/
def Obligations.ResetRelease : Prop :=
  ∀ (lns : BitVec 2) (adr : BitVec 3) (s : State),
    (s.pins.resetLow = false → exec (.resetRelease lns adr) s = .next s) ∧
    (s.pins.resetLow = true → ResetHeld s →
      ∃ t, exec (.resetRelease lns adr) s = .next t ∧
        t.pins = { s.pins with resetLow := false } ∧
        t.bus = { s.bus with address := BitVec.ofNat 8 (8 + adr.toNat), idleCount := 0 } ∧
        t.time = { s.time with tick := 0#32 } ∧
        (∀ l, t.line l =
          { s.line l with fitted := decide (lineNumber l ≤ if lns = 0#2 then 3 else lns.toNat) }) ∧
        (∀ st, (t.flags.get st).mask = 0xFFFE#16 ∧ (t.flags.get st).mode = .level ∧
          (t.flags.get st).polarity = .activeLow ∧ (t.flags.get st).pulseLeft = 0 ∧ t.notifyHigh st = false) ∧
        (∀ l, (t.flags.get (.lineCtl l)).flags = 0x0001#16) ∧
        (t.flags.get .turbine).flags = 0x0011#16 ∧ (t.flags.get .cleaning).flags = 0x0001#16 ∧
        (t.flags.get .supervisory).flags = 0x0D01#16 ∧
        { t with
          pins := s.pins
          bus := s.bus
          time := s.time
          flags := s.flags
          registry := { t.registry with lines := s.registry.lines } } = s)

/-- The state after pin reset meets every invariant stated below. -/
def Obligations.ResetSound : Prop :=
  AllocationSound State.reset ∧ RegistrySound State.reset ∧ LockoutSound State.reset ∧ MonitorSound State.reset ∧
    DoseSound State.reset ∧ PermissionSound State.reset ∧ PeriodSound State.reset ∧ FaultSound State.reset ∧
    PendingSound State.reset ∧ LedgerSound State.reset ∧ ClockSound State.reset ∧ ScheduleSound State.reset ∧
    AnswerSound State.reset ∧ ResetHeld State.reset ∧
    FlagSound State.reset ∧ ConditionSound State.reset ∧ FeedMassSound State.reset

/-! ### The bus port -/

/-- The check byte (R168): from a register of FFh, each byte is put in by exclusive-or and eight steps; run over a whole
telegram with its check byte the register ends at 00h (12.8); and of two telegrams that differ in one byte alone the
checks differ. -/
def Obligations.CheckByteDetects : Prop :=
  checkByte [] = 0xFF#8 ∧
  (∀ (bs : List Byte) (b : Byte), checkByte (bs ++ [b]) =
    Nat.repeat (fun r : Byte => if r.getLsbD 7 then (r <<< 1) ^^^ 0x1D#8 else r <<< 1) 8 (checkByte bs ^^^ b)) ∧
  (∀ bs : List Byte, checkByte (bs ++ [checkByte bs]) = 0x00#8) ∧
  ∀ (pre post : List Byte) (a b : Byte), a ≠ b → checkByte (pre ++ a :: post) ≠ checkByte (pre ++ b :: post)

/-- Telegrams and commands agree (12.1, 12.2, R165, R167): the bytes of a telegram of any known kind, sent by a station to
the part or as a broadcast that is taken, are received as that kind's command with every field as sent; with a wrong
check byte they are a check discard, and cut short they are a gap discard. The reading of a byte string as one command is
the model's (log 11): no step makes it, telegrams reach the part as commands. -/
def Obligations.TelegramRoundTrip : Prop :=
  ∀ (k : Kind) (f : Frame) (address : Byte), f.wellFormed = true →
    (f.src ≠ address → knownSource f.src = true → f.dst = address →
      commandOfBytes address (telegramBytes k.code f) = Instr.ofKind k f) ∧
    (f.src ≠ address → address ≠ 0#8 → f.dst = 0#8 → broadcastTaken k f.src = true →
      commandOfBytes address (telegramBytes k.code f) = Instr.ofKind k f) ∧
    (∀ c, c ≠ checkByte (telegramBody k.code f) →
      commandOfBytes address (telegramBody k.code f ++ [c]) =
        .telegramDiscard (.badCheck (telegramBody k.code f) c)) ∧
    ∀ n, n < (telegramBytes k.code f).length →
      commandOfBytes address ((telegramBytes k.code f).take n) = .busGapDiscard

/-- The checks of the bus port, in order, for a unicast request of any of the 36 kinds (R170, R171): a sender that is no
station 1 to 6, a kind not granted to it, a length the kind does not allow, and a line that is not 1 to 3, not fitted or
not the sender's own are refused with their code and length 0, and nothing but the bus port moves. -/
def Obligations.PortRefusals : Prop :=
  ∀ (k : Kind) (f : Frame) (s : State), s.pins.resetLow = false → s.bus.receives = true → f.dst = s.bus.address →
    f.src ≠ s.bus.address → f.payload.length ≤ 48 →
    let refused (c : Code) : Host.Outcome State Fault Refusal :=
      .next { s with bus := s.bus.answering k.code f c [] }
    (stationOfNumber f.src.toNat = none → exec (Instr.ofKind k f) s = refused .notPermitted) ∧
    ∀ st, stationOfNumber f.src.toNat = some st →
      (granted k st = false → exec (Instr.ofKind k f) s = refused .notPermitted) ∧
      (granted k st = true → lengthAllowed k f.payload.length = false →
        exec (Instr.ofKind k f) s = refused .badLength) ∧
      ∀ n, granted k st = true → lengthAllowed k f.payload.length = true → lineNamed k f = some n →
        (∀ l, lineOfNumber n = some l →
          s.fitted l = false ∨ ∃ own, st = .lineCtl own ∧ l ≠ own) →
        exec (Instr.ofKind k f) s = refused .wrongLine

/-- A telegram of no known kind and one from no station 1 to 6 (R170, checks 1 and 2): answered UNKNOWN_KIND or
NOT_PERMITTED with length 0. A telegram with the part's own address as its source, one for another station, and a
broadcast that is not among those taken are ignored (R167). Nothing but the bus port moves. -/
def Obligations.UnknownAndIgnored : Prop :=
  ∀ (kind : Byte) (f : Frame) (s : State), s.pins.resetLow = false → s.bus.receives = true → f.payload.length ≤ 48 →
    (f.dst = s.bus.address → f.src ≠ s.bus.address → stationOfNumber f.src.toNat = none →
      exec (.unknownKindRequest kind f) s = .next { s with bus := s.bus.answering kind f .notPermitted [] }) ∧
    (∀ st, f.dst = s.bus.address → f.src ≠ s.bus.address → stationOfNumber f.src.toNat = some st →
      kindOfCode kind = none →
      exec (.unknownKindRequest kind f) s = .next { s with bus := s.bus.answering kind f .unknownKind [] }) ∧
    (f.src = s.bus.address ∨ (f.dst ≠ s.bus.address ∧ f.dst ≠ 0#8) ∨
        (f.dst ≠ s.bus.address ∧ ∀ k, kind = k.code → broadcastTaken k f.src = false) →
      exec (.telegramIgnored kind f) s = .next { s with bus := s.bus.passed kind f })

/-- What the receiver throws away (R165, R166). A discard, whatever its reason, returns the receiver to IDLE and sets
BUS_FAULT; after a bad stop bit or length the idle count is 0 and after a gap 20. A receiver reset empties the port, enters
RECOVERING and sets BUS_FAULT once for the entry; a dominant level in RECOVERING starts the 1 ms again; RECOVERY_END
returns the receiver to IDLE with the idle count at 20. The address, the snapshots and all else stand. -/
def Obligations.Discards : Prop :=
  ∀ s : State, s.pins.resetLow = false →
    (∀ d, d.wellFormed = true → s.bus.receives = true →
      ∃ t i, exec (.telegramDiscard d) s = .next t ∧ t.bus = s.bus.settled i ∧
        (d = .badStop ∨ (∃ n, d = .badLength n) → i = 0) ∧
        t.flagSet .busFault = true ∧ FlagsKept (· = .busFault) s t ∧ FlagsOnly s t) ∧
    (s.bus.receives = true →
      ∃ t, exec .busGapDiscard s = .next t ∧ t.bus = s.bus.settled 20 ∧
        t.flagSet .busFault = true ∧ FlagsKept (· = .busFault) s t ∧ FlagsOnly s t) ∧
    (s.bus.receiver ≠ .recovering →
      ∃ t, exec .receiverReset s = .next t ∧ t.bus = { s.bus.settled 0 with receiver := .recovering } ∧
        t.flagSet .busFault = true ∧ FlagsKept (· = .busFault) s t ∧ FlagsOnly s t) ∧
    (s.bus.receiver = .recovering →
      exec .receiverReset s = .next { s with bus := { s.bus with idleCount := 0 } } ∧
      exec .recoveryEnd s = .next { s with bus := s.bus.settled 20 })

/-- The answer window (R169): a waiting answer starts, is sent, and leaves the receiver IDLE with the buffer empty and the
idle count 0; another station's level drops it, and the receiver takes that station's telegram, begun by the bits read
back. Each moves the bus port alone, so the request's effects stand. -/
def Obligations.AnswerWindow : Prop :=
  ∀ s : State, s.bus.receiver = .answering →
    (∀ a, s.bus.answer = some a → s.bus.sending = false →
      exec .answerSend s = .next { s with bus := { s.bus with sending := true, idleCount := 0 } }) ∧
    (s.bus.sending = true → exec .answerDone s = .next { s with bus := s.bus.settled 0 }) ∧
    ∀ readBack, exec (.answerCollision readBack) s = .next { s with bus :=
      { s.bus.settled 0 with
        receiver := .receiving
        inProgress := if s.bus.sending then readBack else [] } }

/-- The idle count (R164): it stands at 20 once the bus has rested; a burst in IDLE before it has rested, and one in
RECOVERING, sets it to 0 and begins nothing; and a request of any kind that comes before the bus has rested, or in
RECOVERING, is passed over: it moves the idle count alone. -/
def Obligations.BusRest : Prop :=
  ∀ s : State, s.pins.resetLow = false →
    (s.bus.sending = false → exec .busRested s = .next { s with bus := { s.bus with idleCount := 20 } }) ∧
    ((s.bus.receiver = .idle ∧ s.bus.idleCount < 20) ∨ s.bus.receiver = .recovering →
      exec .noiseBurst s = .next { s with bus := { s.bus with idleCount := 0 } }) ∧
    ∀ (k : Kind) (f : Frame), f.payload.length ≤ 48 →
      (s.bus.receiver = .idle ∧ s.bus.idleCount ≠ 20) ∨ s.bus.receiver = .recovering →
      ∃ n, exec (Instr.ofKind k f) s = .next { s with bus := { s.bus with idleCount := n } }

/-! ### The requests of the line controllers -/

/-- LINE_START of an OFFLINE, configured line with a valid clock, no lockout and no generator in FAULT (R5): answered
ACCEPTED with FIRING_UP. The generators with source AUTO gain permission and no other has it; the feed computation runs
with the start-up feed request as its demand (R79, R80). Nothing moves outside the line's own records, and STATE_CHANGED
is not set (R3). -/
def Obligations.LineStart : Prop :=
  ∀ (f : Frame) (st : Station) (l : Line) (s : State), Reaches .lineStart f st l s → s.lineState l = .offline →
    s.configured l = true → s.time.clock.valid = true → (s.monitor.get l).lockout = false → s.anyFault l = false →
    ∃ t, exec (.lineStart f) s = .next t ∧ t.bus = s.bus.answering 0x01#8 f .accepted [0x01#8] ∧
      t.line l = { s.line l with state := .firingUp } ∧
      (∀ k, (t.gen l k).permitted = decide ((s.gen l k).source = .auto)) ∧
      (t.feed.get l).m1 = (s.line l).startupRequest ∧
      (t.feed.get l).m4 =
        min (s.line l).startupRequest (s.lineConfig l).startupFeedMax * (s.monitor.get l).throttle / 1000 ∧
      (t.feed.get l).held = false ∧ t.registry = { s.registry with lines := t.registry.lines } ∧
      LineOnly l s t ∧ FlagsKept (· = .dosingLimit) s t

/-- The refusals of the line requests, each with the line's state in its answer and nothing but the bus port moved (R3): the
cases of LINE_START in their order (R5), CONNECT_REQUEST, CONNECT_CANCEL and CONNECT_DONE in every other state (R22,
R24), FEED_HOLD and FEED_RELEASE (R7, R8), LINE_STOP (R11), BURNOUT_DONE (R13), LINE_TRIP in OFFLINE, and accepted without
effect in TRIPPED (R14), TRIP_RESET (R15), and STARTUP_FEED in BURNOUT and TRIPPED (R82). -/
def Obligations.LineRequestsRefused : Prop :=
  ∀ (k : Kind) (f : Frame) (st : Station) (l : Line) (s : State), Reaches k f st l s →
    let answered (c : Code) : Host.Outcome State Fault Refusal :=
      .next { s with bus := s.bus.answering k.code f c [BitVec.ofNat 8 (s.lineState l).code] }
    (k = .lineStart → s.lineState l ≠ .offline → exec (.lineStart f) s = answered .badState) ∧
    (k = .lineStart → s.lineState l = .offline → s.configured l = false ∨ s.time.clock.valid = false →
      exec (.lineStart f) s = answered .notConfigured) ∧
    (k = .lineStart → s.lineState l = .offline → s.configured l = true → s.time.clock.valid = true →
      ((s.monitor.get l).lockout = true → exec (.lineStart f) s = answered .locked) ∧
      ((s.monitor.get l).lockout = false → s.anyFault l = true → exec (.lineStart f) s = answered .badState)) ∧
    (k = .connectRequest → s.lineState l ≠ .firingUp → exec (.connectRequest f) s = answered .badState) ∧
    (k = .connectCancel → s.lineState l ≠ .connectPending → exec (.connectCancel f) s = answered .badState) ∧
    (k = .connectDone → s.lineState l ≠ .connecting → exec (.connectDone f) s = answered .badState) ∧
    (k = .feedHold → s.lineState l ≠ .firingUp → s.lineState l ≠ .connected → s.lineState l ≠ .hold →
      exec (.feedHold f) s = answered .badState) ∧
    (k = .feedRelease → s.lineState l ≠ .hold ∨ (s.line l).reasons.requested = false →
      exec (.feedRelease f) s = answered .badState) ∧
    (k = .lineStop → s.lineState l = .offline ∨ s.lineState l = .burnout ∨ s.lineState l = .tripped →
      exec (.lineStop f) s = answered .badState) ∧
    (k = .burnoutDone → s.lineState l ≠ .burnout → exec (.burnoutDone f) s = answered .badState) ∧
    (k = .lineTrip → s.lineState l = .offline → exec (.lineTrip f) s = answered .badState) ∧
    (k = .lineTrip → s.lineState l = .tripped → exec (.lineTrip f) s = answered .accepted) ∧
    (k = .tripReset → s.lineState l ≠ .tripped → exec (.tripReset f) s = answered .badState) ∧
    (k = .startupFeed → s.lineState l = .burnout ∨ s.lineState l = .tripped →
      exec (.startupFeed f) s = .next { s with
        bus := (s.bus.answering k.code f .badState
          (u16 (s.line l).startupRequest ++ u16 (s.feed.get l).m4 ++ [BitVec.ofNat 8 (s.lineState l).code])) })

/-- CONNECT_REQUEST in FIRING_UP joins the tail of the connect queue and runs the grant test (R21, R22, R23): with the slot
taken or the header not open the line waits in CONNECT_PENDING; with the slot free, the header open and no line waiting it
is granted at once, the grant stamped and its timeout fixed, with CLEAR_TO_CONNECT and STATE_CHANGED set. CONNECT_CANCEL
in CONNECT_PENDING leaves the queue for FIRING_UP, the others keeping their order. -/
def Obligations.ConnectQueue : Prop :=
  ∀ (f : Frame) (st : Station) (l : Line) (s : State),
    (Reaches .connectRequest f st l s → s.lineState l = .firingUp →
      (s.registry.slot ≠ none ∨ s.headerOpen = false →
        ∃ t, exec (.connectRequest f) s = .next t ∧ t.bus = s.bus.answering 0x02#8 f .accepted [0x02#8] ∧
          t.line l = { s.line l with state := .connectPending } ∧
          t.registry = { s.registry with lines := t.registry.lines, queue := s.registry.queue ++ [l] } ∧
          LineOnly l s { t with registry := { t.registry with queue := s.registry.queue } } ∧
          FlagsKept (· = .dosingLimit) s t) ∧
      (s.registry.slot = none → s.headerOpen = true → s.registry.queue = [] →
        ∃ t, exec (.connectRequest f) s = .next t ∧ t.bus = s.bus.answering 0x02#8 f .accepted [0x03#8] ∧
          t.line l = { s.line l with state := .connecting } ∧
          t.registry = { s.registry with
            lines := t.registry.lines
            slot := some ⟨l, s.now, s.config.plant.connectTimeout * 100⟩ } ∧
          t.flagSet (.clearToConnect l) = true ∧ t.conditionHolds (.clearToConnect l) = true ∧
          t.flagSet (.stateChanged l) = true ∧
          LineOnly l s { t with registry := { t.registry with slot := none } } ∧
          FlagsKept (fun x => x = .dosingLimit ∨ x = .clearToConnect l ∨ x = .stateChanged l) s t)) ∧
    (Reaches .connectCancel f st l s → s.lineState l = .connectPending →
      ∃ t, exec (.connectCancel f) s = .next t ∧ t.bus = s.bus.answering 0x03#8 f .accepted [0x01#8] ∧
        t.line l = { s.line l with state := .firingUp } ∧
        t.registry = { s.registry with
          lines := t.registry.lines
          queue := s.registry.queue.filter (fun k => decide (k ≠ l)) } ∧
        LineOnly l s { t with registry := { t.registry with queue := s.registry.queue } } ∧
        FlagsKept (· = .dosingLimit) s t)

/-- The end of a connect. CONNECT_DONE in CONNECTING (R24) takes the line into CONNECTED and the recomputation with it, which
may shed it again at once (R3, R38); the expiry of the connect timer (R25) takes a line still in CONNECTING back to
FIRING_UP and sets STATE_CHANGED. Either way the slot frees, CLEAR_TO_CONNECT ends, and the grant test runs for the next
head. Before its time the timer changes nothing (the model's choice, log 4).
The revision count of a recomputation that sheds and leaves the record equal is log 23. -/
def Obligations.ConnectEnds : Prop :=
  ∀ (f : Frame) (st : Station) (l : Line) (s : State), ConnectSound s → s.lineState l = .connecting →
    (Reaches .connectDone f st l s →
      ∃ t, exec (.connectDone f) s = .next t ∧
        t.bus = s.bus.answering 0x04#8 f .accepted [BitVec.ofNat 8 (t.lineState l).code] ∧
        Recomputed (s.connectedSet.set l true) s t ∧ t.conditionHolds (.clearToConnect l) = false ∧
        GrantRun s.registry.queue s t ∧ PlantOnly s t) ∧
    (∀ slot, s.registry.slot = some slot →
      (slot.timeout ≤ s.elapsed slot.grantTick →
        ∃ t, exec .connectTimeout s = .next t ∧ t.lineState l = .firingUp ∧
          t.flagSet (.stateChanged l) = true ∧ t.conditionHolds (.clearToConnect l) = false ∧
          GrantRun s.registry.queue s t ∧ t.bus = s.bus ∧ t.alloc = s.alloc ∧ t.sched = s.sched ∧ PlantOnly s t) ∧
      (s.elapsed slot.grantTick < slot.timeout → exec .connectTimeout s = .next s))

/-- FEED_HOLD (R7): from FIRING_UP the line enters HOLD with REQUESTED and the return state FIRING_UP; from CONNECTED with
the return state CONNECTED and out of the allocation, its assignment 0; in HOLD REQUESTED is added and nothing else moves.
FEED_RELEASE (R8, R6) in HOLD with REQUESTED removes it: with another reason left the line stays in HOLD, with none left
it returns to FIRING_UP, or to CONNECTED with the recomputation, which may shed it at once. STATE_CHANGED is set for a
shed alone (R3).
The revision count of a recomputation that sheds and leaves the record equal is log 23. -/
def Obligations.HoldAndRelease : Prop :=
  ∀ (f : Frame) (st : Station) (l : Line) (s : State),
    (Reaches .feedHold f st l s →
      (s.lineState l = .firingUp →
        ∃ t, exec (.feedHold f) s = .next t ∧ t.bus = s.bus.answering 0x05#8 f .accepted [0x05#8] ∧
          t.line l =
            { s.line l with state := .hold, reasons := ⟨true, false, false⟩, returnTo := some .firingUp } ∧
          (t.feed.get l) = { s.feed.get l with held := true } ∧
          t.registry = { s.registry with lines := t.registry.lines } ∧ LineOnly l s t ∧
          FlagsKept (· = .dosingLimit) s t) ∧
      (s.lineState l = .connected →
        ∃ t, exec (.feedHold f) s = .next t ∧ t.bus = s.bus.answering 0x05#8 f .accepted [0x05#8] ∧
          t.line l =
            { s.line l with state := .hold, reasons := ⟨true, false, false⟩, returnTo := some .connected } ∧
          (t.feed.get l) = { s.feed.get l with held := true } ∧
          Recomputed (s.connectedSet.set l false) s t ∧ t.alloc.record.assigned.get l = 0 ∧
          t.flagSet (.stateChanged l) = s.flagSet (.stateChanged l) ∧ PlantOnly s t ∧ FlagsKept allocFlags s t) ∧
      (s.lineState l = .hold →
        exec (.feedHold f) s = .next { s.setLine l { s.line l with
          reasons := { (s.line l).reasons with requested := true } } with
          bus := s.bus.answering 0x05#8 f .accepted [0x05#8] })) ∧
    (Reaches .feedRelease f st l s → s.lineState l = .hold → (s.line l).reasons.requested = true →
      ((s.line l).reasons.shed = true ∨ (s.line l).reasons.jam = true →
        exec (.feedRelease f) s = .next { s.setLine l { s.line l with
          reasons := { (s.line l).reasons with requested := false } } with
          bus := s.bus.answering 0x06#8 f .accepted [0x05#8] }) ∧
      ((s.line l).reasons = ⟨true, false, false⟩ → (s.line l).returnTo = some .firingUp →
        ∃ t, exec (.feedRelease f) s = .next t ∧ t.bus = s.bus.answering 0x06#8 f .accepted [0x01#8] ∧
          t.line l = { s.line l with state := .firingUp, reasons := ⟨false, false, false⟩, returnTo := none } ∧
          (t.feed.get l).held = false ∧ t.registry = { s.registry with lines := t.registry.lines } ∧
          LineOnly l s t ∧ FlagsKept (· = .dosingLimit) s t) ∧
      ((s.line l).reasons = ⟨true, false, false⟩ → (s.line l).returnTo = some .connected →
        ∃ t, exec (.feedRelease f) s = .next t ∧
          t.bus = s.bus.answering 0x06#8 f .accepted [BitVec.ofNat 8 (t.lineState l).code] ∧
          Recomputed (s.connectedSet.set l true) s t ∧
          (t.lineState l = .connected → t.line l =
            { s.line l with state := .connected, reasons := ⟨false, false, false⟩, returnTo := none } ∧
            t.flagSet (.stateChanged l) = s.flagSet (.stateChanged l)) ∧
          PlantOnly s t ∧ FlagsKept allocFlags s t))

/-- LINE_STOP from a feeding state or HOLD moves the line to BURNOUT (R11), and LINE_TRIP from any state but OFFLINE and
TRIPPED to TRIPPED (R14). What the state left held is undone: the queue place, the connect slot, the place in the
allocation, the hold record with the place in the shed set. In BURNOUT the FEED countdown is cleared; in TRIPPED all six
generators stand at REST with neither countdown nor pending stroke, a buffered value taken (R97, R98), each stroke or pulse
in flight counted aborted, the fed mass as it was and both dosing rates 0. Lockout stands, and STATE_CHANGED is not set
(R3).
The revision count of a recomputation that sheds and leaves the record equal is log 23. -/
def Obligations.StopAndTrip : Prop :=
  ∀ (f : Frame) (st : Station) (l : Line) (s : State), RegistrySound s →
    let gone (t : State) : Prop :=
      (t.line l).reasons = ⟨false, false, false⟩ ∧ (t.line l).returnTo = none ∧ l ∉ t.registry.queue ∧
        t.registry.slot.map ConnectSlot.line ≠ some l ∧ t.alloc.shed.get l = false ∧
        t.connectedSet.get l = false ∧ (s.lineState l = .connecting → GrantRun s.registry.queue s t) ∧
        (s.lineState l = .connected → Recomputed (s.connectedSet.set l false) s t ∧
          t.alloc.record.assigned.get l = 0) ∧
        (s.lineState l ≠ .connected → t.alloc.record = s.alloc.record) ∧
        (t.feed.get l) = { s.feed.get l with held := true } ∧
        t.flagSet (.stateChanged l) = s.flagSet (.stateChanged l) ∧ PlantOnly s t
    (Reaches .lineStop f st l s → (s.lineState l).feeding = true ∨ s.lineState l = .hold →
      ∃ t, exec (.lineStop f) s = .next t ∧ t.bus = s.bus.answering 0x07#8 f .accepted [0x06#8] ∧
        t.lineState l = .burnout ∧ gone t ∧ (t.gen l .feed).countdown = none ∧
        (t.gen l .feed).permitted = false ∧ (t.gen l .feed).phase = (s.gen l .feed).phase ∧
        ((s.gen l .feed).permitted = true → (t.gen l .feed).current = (s.gen l .feed).periodTaken ∧
          (t.gen l .feed).buffer = .empty ∧ (t.gen l .feed).pending = false)) ∧
    (Reaches .lineTrip f st l s → s.lineState l ≠ .offline → s.lineState l ≠ .tripped →
      ∃ t, exec (.lineTrip f) s = .next t ∧ t.bus = s.bus.answering 0x09#8 f .accepted [0x07#8] ∧
        t.lineState l = .tripped ∧ gone t ∧ (∀ c, (t.dose l c).rate = 0) ∧
        ∀ k, (t.gen l k).phase = .rest ∧ (t.gen l k).countdown = none ∧ (t.gen l k).pending = false ∧
          (t.gen l k).current = (s.gen l k).periodTaken ∧ (t.gen l k).buffer = .empty ∧
          (t.gen l k).run = (if (s.gen l k).run = .fault then .fault else .stopped) ∧
          (t.gen l k).aborted = (s.gen l k).aborted + (if (s.gen l k).phase = .active then 1#16 else 0#16) ∧
          (t.gen l k).completed = (s.gen l k).completed ∧ (t.gen l k).blockPulses = (s.gen l k).blockPulses)

/-- Entering OFFLINE, by BURNOUT_DONE from BURNOUT (R13) or by TRIP_RESET from TRIPPED (R15), with its effects at every
owner: the hold record empty and the deviation count 0; the start-up request 0, the heat value back at lhv_init, no
demand, period or reference feed, the mass ring kept (R78); all six generators STOPPED at REST with empty buffer, no
countdown and no faults in a row, a buffered value taken and the counts of strokes and faults kept (R99); the episode closed,
the throttle 1000, budget used and lockout kept; both trims and rates 0, the mode and override rate kept (R154). -/
def Obligations.EnterOffline : Prop :=
  ∀ (f : Frame) (st : Station) (l : Line) (s : State),
    let offline (t : State) : Prop :=
      t.line l = { s.line l with
        state := .offline, reasons := ⟨false, false, false⟩, returnTo := none, deviation := 0, startupRequest := 0 } ∧
      t.feed.get l = { s.feed.get l with
        m1 := 0, m4 := 0, capped := false, throttled := false, raised := false, held := false, reference := none
        periods := ⟨none, none, none, none⟩, clamps := ⟨.within, .within, .within, .within⟩, paced := 0
        lhv := (s.lineConfig l).lhvInit, blockValue := none, outcome := .none } ∧
      (∀ k, (t.gen l k).run = .stopped ∧ (t.gen l k).phase = .rest ∧ (t.gen l k).buffer = .empty ∧
        (t.gen l k).countdown = none ∧ (t.gen l k).pending = false ∧ (t.gen l k).consecutive = 0 ∧
        (t.gen l k).current = (s.gen l k).periodTaken ∧ (t.gen l k).source = (s.gen l k).source ∧
        (t.gen l k).completed = (s.gen l k).completed ∧ (t.gen l k).early = (s.gen l k).early ∧
        (t.gen l k).late = (s.gen l k).late ∧ (t.gen l k).stray = (s.gen l k).stray ∧
        (t.gen l k).aborted = (s.gen l k).aborted + (if (s.gen l k).phase = .active then 1#16 else 0#16)) ∧
      t.monitor = s.monitor.set l { s.monitor.get l with
        throttle := 1000, episodeOpen := false, length := 0, compliant := 0 } ∧
      (∀ c, (t.dose l c).trim = 0 ∧ (t.dose l c).rate = 0 ∧ (t.dose l c).lastError = none ∧
        (t.dose l c).trimOutcome = .none ∧ (t.dose l c).mode = (s.dose l c).mode ∧
        (t.dose l c).overrideRate = (s.dose l c).overrideRate ∧ (t.dose l c).lastDose = (s.dose l c).lastDose) ∧
      t.alloc.flagged.get l = 0 ∧ t.conditionHolds (.jam l) = false ∧ t.conditionHolds (.throttled l) = false ∧
      t.conditionHolds (.steamDeviation l) = false ∧
      t.flagSet (.stateChanged l) = s.flagSet (.stateChanged l) ∧ PlantOnly s { t with monitor := s.monitor }
    (Reaches .burnoutDone f st l s → s.lineState l = .burnout →
      ∃ t, exec (.burnoutDone f) s = .next t ∧ t.bus = s.bus.answering 0x08#8 f .accepted [0x00#8] ∧ offline t) ∧
    (Reaches .tripReset f st l s → s.lineState l = .tripped →
      ∃ t, exec (.tripReset f) s = .next t ∧ t.bus = s.bus.answering 0x0A#8 f .accepted [0x00#8] ∧ offline t)

/-- STARTUP_FEED outside BURNOUT and TRIPPED (R82): the value clamped to startup_feed_max is held, ACCEPTED_CLAMPED where it
was above, and a run is made (`FeedRunDone`). In a feeding state the run works the stages, from the request, or in CONNECTED
from the assignment and the heat value (R79, R80), with the reference feed (R81), the feeder and zone periods, each clamped
to its generator's limits with the clamp recorded, and the paced feed (R83, R84), and hands the periods (R85), which each
generator takes by its run state (`Handed`, R102): STOPPED and FAULT as current, IDLE starting by preset, RUNNING at once
when shorter than the countdown and into the buffer otherwise. In HOLD and OFFLINE the demand stands (R77). The answer
carries the held request, M4 and the line state after the run. -/
def Obligations.StartupFeed : Prop :=
  ∀ (f : Frame) (st : Station) (l : Line) (s : State), Reaches .startupFeed f st l s →
    s.lineState l ≠ .burnout → s.lineState l ≠ .tripped →
    let most := (s.lineConfig l).startupFeedMax
    let value := word16 f.payload 0
    ∃ t, exec (.startupFeed f) s = .next t ∧
      t.bus = s.bus.answering 0x0B#8 f (if most < value then .acceptedClamped else .accepted)
        (u16 (min value most) ++ u16 (t.feed.get l).m4 ++ [BitVec.ofNat 8 (s.lineState l).code]) ∧
      t.line l = { s.line l with startupRequest := min value most } ∧
      FeedRunDone l (s.setLine l { s.line l with startupRequest := min value most }) t ∧
      t.registry = { s.registry with lines := t.registry.lines } ∧ LineOnly l s t ∧
      FlagsKept (· = .dosingLimit) s t

/-! ### Reads -/

/-- The five reads that come in two parts (R184, R16, R62, R115, R134, R162): what is named out of range, or a part number
above 1, is refused BAD_VALUE with length 0 (for part 1 too, before its snapshot is looked at: log 13); part 0 answers at most 48 bytes and holds both parts as the station's
snapshot; part 1 is answered from a snapshot of the same kind that names the same, and refused BAD_STATE otherwise. A read
changes nothing else but the count of free bytes (log 3). -/
def Obligations.ReadParts : Prop :=
  ∀ (k : Kind) (f : Frame) (st : Station) (l : Line) (s : State),
    k = .lineRead ∨ k = .generatorRead ∨ k = .ledgerRead ∨ k = .dosingRead ∨ k = .scheduleRead →
    Reaches k f st l s →
    let b (i : Nat) : Nat := byteAt f.payload i
    let answered (c : Code) (p : List Byte) : Host.Outcome State Fault Refusal :=
      .next { s with bus := s.bus.answering k.code f c p }
    let named : Bool := match k with
      | .generatorRead => decide (1 ≤ b 1 ∧ b 1 ≤ 7)
      | .ledgerRead => decide (1 ≤ b 0 ∧ b 0 ≤ 6 ∧ b 1 ≤ 47)
      | .scheduleRead => decide (b 0 ≤ 23)
      | _ => true
    let names : List Nat := match k with
      | .generatorRead => [lineNumber l, b 1]
      | .ledgerRead => [lineNumber l, b 0, b 1]
      | .scheduleRead => [b 0]
      | _ => [lineNumber l]
    let part : Nat := match k with
      | .generatorRead | .ledgerRead => b 2
      | .scheduleRead => b 1
      | _ => b 0
    (named = false ∨ 1 < part → exec (Instr.ofKind k f) s = answered .badValue []) ∧
    (named = true → part = 0 →
      ∃ t, exec (Instr.ofKind k f) s = .next t ∧
        t.bus = (s.bus.answering k.code f .accepted t.payload).holding st ⟨k, names, t.payload, t.heldPart st⟩ ∧
        t.payload.length ≤ 48 ∧ (t.heldPart st).length ≤ 48 ∧
        { t with bus := s.bus, freeCount := s.freeCount } = s) ∧
    (named = true → part = 1 →
      (∀ x, s.bus.snapshots.get st = some x → x.kind = k ∧ x.names = names →
        exec (Instr.ofKind k f) s = answered .accepted x.part1) ∧
      ((∀ x, s.bus.snapshots.get st = some x → x.kind ≠ k ∨ x.names ≠ names) →
        exec (Instr.ofKind k f) s = answered .badState []))

/-- What LINE_READ shows (R16, 12.5): each field of the line's records at its offset in the 34 bytes of part 0, and of its
feed record in the 42 bytes held for part 1. A number above the range of its field is cut to the field's width (log 8), as
are a stroke count past 65535 and its mass (log 22). -/
def Obligations.LineReadShows : Prop :=
  ∀ (f : Frame) (st : Station) (l : Line) (s : State), Reaches .lineRead f st l s → byteAt f.payload 0 = 0 →
    ∃ t, exec (.lineRead f) s = .next t ∧
      let p := t.payload
      let q := t.heldPart st
      let r := s.line l
      let m := s.monitor.get l
      let d := s.feed.get l
      (p.length = 34 ∧ byteAt p 0 = r.state.code ∧
        bitAt (byteAt p 1) 0 = r.reasons.requested ∧ bitAt (byteAt p 1) 1 = r.reasons.shed ∧
        bitAt (byteAt p 1) 2 = r.reasons.jam ∧ bitAt (byteAt p 1) 3 = s.configured l ∧
        bitAt (byteAt p 1) 4 = m.lockout ∧ bitAt (byteAt p 1) 5 = s.registry.header.stale ∧
        bitAt (byteAt p 1) 6 = m.budgetLoaded ∧ byteAt p 2 = (r.returnTo.map ReturnState.code).getD 255 ∧
        word16 p 3 = s.alloc.record.assigned.get l % 65536 ∧ word16 p 5 = r.measured % 65536 ∧
        byteAt p 7 = r.deviation % 256 ∧ word16 p 8 = r.startupRequest % 65536 ∧
        byteAt p 10 = (if l ∈ s.registry.queue then (s.registry.queue.idxOf l + 1) % 256 else 0) ∧
        (∀ x, s.registry.slot = some x → x.line = l →
          word16 p 11 = (x.timeout - s.elapsed x.grantTick + 99) / 100 % 65536) ∧
        (s.registry.slot.map ConnectSlot.line ≠ some l → word16 p 11 = 65535) ∧
        word16 p 13 = s.registry.header.pressure % 65536 ∧
        (-32768 ≤ s.registry.header.riseRate → s.registry.header.riseRate < 32768 →
          int16 p 15 = s.registry.header.riseRate) ∧
        word16 p 17 * 65536 + word16 p 19 = s.time.tick.toNat ∧ word16 p 21 = m.throttle % 65536 ∧
        word16 p 23 = (s.lineConfig l).throttleFloor % 65536 ∧ byteAt p 25 = (if m.episodeOpen then 1 else 0) ∧
        word16 p 26 = m.length % 65536 ∧ byteAt p 28 = m.compliant % 256 ∧ byteAt p 29 = m.evaluation.code ∧
        word16 p 30 = m.budgetUsed % 65536 ∧ word16 p 32 = (s.lineConfig l).allowance % 65536) ∧
      (q.length = 42 ∧ word16 q 0 = d.m4 % 65536 ∧ word24 q 2 = d.m1 % 16777216 ∧
        bitAt (byteAt q 5) 0 = d.capped ∧ bitAt (byteAt q 5) 1 = d.throttled ∧ bitAt (byteAt q 5) 2 = d.raised ∧
        bitAt (byteAt q 5) 3 = d.held ∧ word16 q 6 = d.reference.getD 0 % 65536 ∧
        word24 q 8 = d.periods.feed.getD 0 % 16777216 ∧ word24 q 11 = d.periods.z1.getD 0 % 16777216 ∧
        word24 q 14 = d.periods.z2.getD 0 % 16777216 ∧ word24 q 17 = d.periods.z3.getD 0 % 16777216 ∧
        byteAt q 20 % 4 = d.clamps.feed.code ∧ byteAt q 20 / 4 % 4 = d.clamps.z1.code ∧
        byteAt q 20 / 16 % 4 = d.clamps.z2.code ∧ byteAt q 20 / 64 = d.clamps.z3.code ∧
        word24 q 21 = d.paced % 16777216 ∧ word16 q 24 = d.lhv % 65536 ∧ word16 q 26 = d.strokes % 65536 ∧
        word24 q 28 = d.mass % 16777216 ∧ word24 q 31 = d.massPrev % 16777216 ∧
        word24 q 34 = d.massPrev2 % 16777216 ∧ word16 q 37 = d.blockSteam % 65536 ∧
        word16 q 39 = d.blockValue.getD 0 % 65536 ∧ byteAt q 41 = d.outcome.code)

/-- What DISPATCH_READ shows, to the turbine controller and the supervisory station alike (R47, R73, 12.5): each field of
the allocation record, the scheduler and the clock at its offset in the 48 bytes. It changes nothing but the bus port
and the count of free bytes, the fields of an absent active block having no value (log 3). The demand shown is the last
one handed, which stands when E_r is pulled back after it (R72), and 0 in STEAM_LED (kept as a field of its own: log 10).
A number above the range of its field is cut to the field's width (log 8). -/
def Obligations.DispatchReadShows : Prop :=
  ∀ (f : Frame) (st : Station) (l : Line) (s : State), Reaches .dispatchRead f st l s →
    ∃ t, exec (.dispatchRead f) s = .next t ∧ t.bus = s.bus.answering 0x22#8 f .accepted t.payload ∧
      { t with bus := s.bus, freeCount := s.freeCount } = s ∧
      let p := t.payload
      let r := s.alloc.record
      let u := s.sched.turbine
      let c := s.time.clock
      (p.length = 48 ∧ word16 p 0 = r.assigned.a % 65536 ∧ word16 p 2 = r.assigned.b % 65536 ∧
        word16 p 4 = r.assigned.c % 65536 ∧ word16 p 6 = r.target % 65536 ∧ word16 p 8 = r.bypass % 65536 ∧
        word16 p 10 = r.served % 65536 ∧ byteAt p 12 = r.mode.code ∧ bitAt (byteAt p 13) 0 = r.shortfall ∧
        bitAt (byteAt p 13) 1 = s.alloc.shed.a ∧ bitAt (byteAt p 13) 2 = s.alloc.shed.b ∧
        bitAt (byteAt p 13) 3 = s.alloc.shed.c ∧ word16 p 14 = r.revision.toNat ∧
        word16 p 16 = s.alloc.aux % 65536 ∧ byteAt p 18 = s.sched.mode.code ∧
        word16 p 19 = s.sched.ramped % 65536 ∧
        (s.sched.mode = .powerLed → word16 p 21 = s.sched.handed % 65536) ∧
        (s.sched.mode = .steamLed → word16 p 21 = 0) ∧ word16 p 23 = s.sched.ceiling % 65536) ∧
      (byteAt p 25 = u.reported.code ∧ word16 p 26 = u.limit % 65536 ∧ byteAt p 28 = u.effective.code ∧
        byteAt p 29 = u.silence.code ∧
        (s.sched.active = none → byteAt p 30 = 0 ∧ word16 p 36 = 65535 ∧ word16 p 38 = 65535) ∧
        (∀ a, s.sched.active = some a → byteAt p 30 = 1 ∧ word16 p 31 = a.block.start % 65536 ∧
          word16 p 33 = a.block.exportTarget % 65536 ∧ byteAt p 35 = a.block.rampLimit % 256 ∧
          word16 p 36 = a.block.duration.getD 65535 % 65536 ∧ word16 p 38 = a.remaining.getD 65535 % 65536) ∧
        byteAt p 40 = s.sched.queue.length % 256 ∧ word16 p 41 = c.minute % 65536 ∧ byteAt p 43 = c.second % 256 ∧
        byteAt p 44 = c.hundredth % 256 ∧ byteAt p 45 = (if c.valid then 1 else 0) ∧ word16 p 46 = c.hold % 65536)

/-- What the other reads show (R115, R134, R162, R62), in the model's layouts for "the fewest whole bytes" (log 8): a
generator's record, 45 bytes for a stroke generator and 28 for a pulse generator, with input level, ticks in flight and
parameters in part 1; of number 7 the steam counter, sensing mark, edge and three counts, with its input level in part 1 (R114); the
running block with the sample stored, the block record, the day and the last day of a ledger channel, with its history and
its marks from the start index in part 1; both dosing channels with their parameters; and the active block and the schedule
queue from the start index. -/
def Obligations.OtherReadsShow : Prop :=
  ∀ (f : Frame) (st : Station) (l : Line) (s : State),
    (∀ k, Reaches .generatorRead f st l s → genOfNumber (byteAt f.payload 1) = some k → byteAt f.payload 2 = 0 →
      ∃ t, exec (.generatorRead f) s = .next t ∧
        let p := t.payload
        let q := t.heldPart st
        let g := s.gen l k
        let cfg := s.genConfig l k
        byteAt p 0 = g.run.code ∧ byteAt p 1 = g.source.code ∧ byteAt p 2 = (if g.configured then 1 else 0) ∧
          word24 p 3 = g.current.getD 0 % 16777216 ∧ (g.buffer = .empty → word24 p 6 = 0xFFFFFF) ∧
          (g.buffer = .none → word24 p 6 = 0) ∧ (∀ x, g.buffer = .period x → word24 p 6 = x % 16777216) ∧
          word16 p 9 = g.countdown.getD 0 % 65536 ∧ byteAt p 11 = g.trimAcc % 256 ∧ byteAt p 12 = g.phase.code ∧
          byteAt p 13 = (if g.pending then 1 else 0) ∧
          word16 p 14 * 65536 + word16 p 16 = g.activeSince.toNat ∧ byteAt q 0 = g.phase.code ∧
          (((asStroke k).isSome = true → word16 q 4 = cfg.periodMin % 65536 ∧ word16 q 6 = cfg.periodMax % 65536 ∧
              word16 q 8 = cfg.strokeMin % 65536 ∧ word16 q 10 = cfg.strokeMax % 65536 ∧
              byteAt q 12 = (if cfg.completeEdge = .rising then 0 else 1) ∧
              (k = .feed → q.length = 13) ∧ (k ≠ .feed → q.length = 15 ∧ word16 q 13 = cfg.zoneRatio % 65536)) ∧
            ((asStroke k).isSome = false → q.length = 6 ∧ word16 q 1 = cfg.periodMin % 65536 ∧
              word16 q 3 = cfg.periodMax % 65536 ∧ byteAt q 5 = cfg.pulseWidth % 256) ∧
            ∀ sg, asStroke k = some sg → byteAt q 1 =
              (if g.configured then (if (s.pins.strokeComplete.get l).get sg then 1 else 0) else 255)) ∧
          ((asStroke k).isSome = true → p.length = 45 ∧ word16 p 18 = g.limitMin % 65536 ∧
            word16 p 20 = g.limitMax % 65536 ∧ byteAt p 22 = g.consecutive % 256 ∧
            word16 p 23 * 65536 + word16 p 25 = g.completed.toNat ∧ word16 p 27 = g.aborted.toNat ∧
            word16 p 29 = g.overrun.toNat ∧ word16 p 31 = g.early.toNat ∧ word16 p 33 = g.late.toNat ∧
            word16 p 35 = g.stray.toNat ∧ word16 p 37 = g.lastDuration.getD 65535 % 65536 ∧
            (g.lastFault = none → p.drop 39 = [0#8, 0#8, 0#8, 0#8, 0#8, 0#8]) ∧
            (∀ x, g.lastFault = some x → byteAt p 39 = x.kind.code ∧ word16 p 40 = x.minute % 65536 ∧
              byteAt p 42 = x.second % 256 ∧ byteAt p 43 = x.hundredth % 256 ∧
              byteAt p 44 = (if x.valid then 1 else 0)) ∧
            (g.phase = .active → word16 q 2 = s.elapsed g.activeSince % 65536) ∧
            (g.phase = .rest → word16 q 2 = 65535)) ∧
          ((asStroke k).isSome = false → p.length = 28 ∧ word16 p 18 * 65536 + word16 p 20 = g.completed.toNat ∧
            word16 p 22 = g.aborted.toNat ∧ word16 p 24 = g.overrun.toNat ∧ word16 p 26 = g.blockPulses % 65536)) ∧
    (Reaches .generatorRead f st l s → byteAt f.payload 1 = 7 → byteAt f.payload 2 = 0 →
      ∃ t, exec (.generatorRead f) s = .next t ∧
        let p := t.payload
        let q := t.heldPart st
        let c := s.counters.get l
        p.length = 10 ∧ byteAt p 0 = (if c.sensing then 1 else 0) ∧ byteAt p 1 = (if c.edge = .rising then 0 else 1) ∧
          word16 p 2 = c.minuteCount % 65536 ∧ word16 p 4 = c.blockCount % 65536 ∧
          word16 p 6 * 65536 + word16 p 8 = c.total.toNat ∧ q.length = 1 ∧
          byteAt q 0 = (if c.sensing then (if s.pins.steam.get l then 1 else 0) else 255)) ∧
    (∀ k, Reaches .ledgerRead f st l s → pollutantOfCode (byteAt f.payload 0) = some k →
      byteAt f.payload 1 ≤ 47 → byteAt f.payload 2 = 0 →
      ∃ t, exec (.ledgerRead f) s = .next t ∧
        let p := t.payload
        let q := t.heldPart st
        let ch := (s.ledger.get l).channels.get k
        let start := byteAt f.payload 1
        let entry (b : BlockEntry) (i : Nat) : Prop :=
          byteAt p i = b.status.code ∧ (∀ m, b.status.mean? = some m → word16 p (i + 1) = m % 65536) ∧
            byteAt p (i + 3) = b.nOp % 256 ∧ byteAt p (i + 4) = b.v % 256
        let marked (e : HistoryEntry) (x : Nat) : Prop :=
          bitAt x 0 = e.yesterday ∧ x / 2 % 4 = e.status.code ∧ bitAt x 3 = e.exceeded ∧ bitAt x 4 = e.episodeOpen ∧
            x / 32 % 4 = e.validBlocks % 4
        p.length = 44 ∧ byteAt p 0 = (s.ledger.get l).nOp % 256 ∧ word24 p 1 = ch.sum % 16777216 ∧
          byteAt p 4 = ch.count % 256 ∧ byteAt p 5 = (if (s.ledger.get l).store.isSome then 1 else 0) ∧
          (∀ x, (s.ledger.get l).store = some x →
            byteAt p 8 = (if (x.values.get k).isSome then 1 else 0) ∧
            ∀ v, x.values.get k = some v → word16 p 6 = v % 65536) ∧
          entry ch.block0 9 ∧ entry ch.block1 14 ∧ entry ch.block2 19 ∧
          word24 p 24 = ch.day.sum % 16777216 ∧ byteAt p 27 = ch.day.valid % 256 ∧
          byteAt p 28 = ch.day.invalid % 256 ∧ byteAt p 29 = ch.day.idle % 256 ∧
          word16 p 30 = ch.day.start % 65536 ∧ byteAt p 32 = (if 0 < ch.day.valid then 1 else 0) ∧
          (0 < ch.day.valid → word16 p 33 = ch.day.sum / ch.day.valid % 65536) ∧
          (ch.lastDay = none → byteAt p 35 = 255) ∧
          (∀ d, ch.lastDay = some d → byteAt p 35 = d.status.code ∧
            (∀ m, d.status.mean? = some m → word16 p 36 = m % 65536) ∧ byteAt p 38 = (if d.exceeded then 1 else 0) ∧
            byteAt p 39 = d.valid % 256 ∧ byteAt p 40 = d.invalid % 256 ∧ byteAt p 41 = d.idle % 256 ∧
            word16 p 42 = d.start % 65536) ∧
          byteAt q 0 = ch.history.length % 256 ∧ q.length = 1 + 5 * min 8 (ch.history.length - start) ∧
          ∀ i : Fin 8, ∀ e, ch.history[start + i.val]? = some e → word16 q (1 + 5 * i.val) = e.start % 65536 ∧
            marked e (byteAt q (3 + 5 * i.val)) ∧
            ∀ m, e.status.mean? = some m → word16 q (4 + 5 * i.val) = m % 65536) ∧
    (Reaches .dosingRead f st l s → byteAt f.payload 0 = 0 →
      ∃ t, exec (.dosingRead f) s = .next t ∧ t.payload.length = 45 ∧ (t.heldPart st).length = 47 ∧
        ∀ c : Channel,
          let p := match c with
            | .nox => t.payload
            | .acid => t.heldPart st
          let r := s.dose l c
          let cfg := s.dosingConfig l c
          let trims (i : Nat) : Prop :=
            (-32768 ≤ cfg.trimLo → cfg.trimLo < 32768 → int16 p i = cfg.trimLo) ∧
              (-32768 ≤ cfg.trimHi → cfg.trimHi < 32768 → int16 p (i + 2) = cfg.trimHi)
          byteAt p 0 = (s.lineState l).code ∧ word16 p 1 = (s.feed.get l).reference.getD 0 % 65536 ∧
            byteAt p 3 = r.mode.code ∧ word24 p 4 = r.overrideRate % 16777216 ∧
            (-32768 ≤ r.trim → r.trim < 32768 → int16 p 7 = r.trim) ∧ word24 p 9 = r.ff % 16777216 ∧
            word24 p 12 = r.rate % 16777216 ∧ word24 p 15 = r.period.getD 0 % 16777216 ∧
            word24 p 18 = r.paced % 16777216 ∧ bitAt (byteAt p 21) 0 = r.limits.rateAtMax ∧
            bitAt (byteAt p 21) 1 = r.limits.trimAtLo ∧ bitAt (byteAt p 21) 2 = r.limits.trimAtHi ∧
            bitAt (byteAt p 21) 3 = r.limits.periodAtPmin ∧ bitAt (byteAt p 21) 4 = r.limits.periodAtPmax ∧
            (r.lastError = none → word24 p 22 = 0x800000) ∧
            (∀ e, r.lastError = some e → -8388608 ≤ e → e < 8388608 → int24 p 22 = e) ∧
            byteAt p 25 = r.trimOutcome.code ∧ word16 p 26 * 65536 + word16 p 28 = r.lastDose % 4294967296 ∧
            word16 p 30 = cfg.kFf % 65536 ∧ word16 p 32 = cfg.pulseG % 65536 ∧ word24 p 34 = cfg.rateMax % 16777216 ∧
            (c = .nox → word16 p 37 = cfg.setpoint % 65536 ∧ word16 p 39 = cfg.kt % 65536 ∧ trims 41) ∧
            (c = .acid → word16 p 37 = cfg.setpointSo2 % 65536 ∧ word16 p 39 = cfg.setpointHcl % 65536 ∧
              word16 p 41 = cfg.kt % 65536 ∧ trims 43)) ∧
    (Reaches .scheduleRead f st l s → byteAt f.payload 0 ≤ 23 → byteAt f.payload 1 = 0 →
      ∃ t, exec (.scheduleRead f) s = .next t ∧
        let p := t.payload
        let q := t.heldPart st
        let start := byteAt f.payload 0
        byteAt p 0 = s.sched.queue.length % 256 ∧ byteAt p 1 = (if s.sched.active.isSome then 1 else 0) ∧
          (s.sched.active = none → word16 p 7 = 65535 ∧ word16 p 9 = 65535) ∧
          (∀ a, s.sched.active = some a → word16 p 2 = a.block.start % 65536 ∧
            word16 p 4 = a.block.exportTarget % 65536 ∧ byteAt p 6 = a.block.rampLimit % 256 ∧
            word16 p 7 = a.block.duration.getD 65535 % 65536 ∧ word16 p 9 = a.remaining.getD 65535 % 65536) ∧
          word16 p 11 = s.sched.ramped % 65536 ∧ p.length = 13 + 8 * min 4 (s.sched.queue.length - start) ∧
          q.length = 8 * min 4 (s.sched.queue.length - (start + 4)) ∧
          ∀ i : Fin 4, ∀ b,
            (s.sched.queue[start + i.val]? = some b → byteAt p (13 + 8 * i.val) = b.day % 256 ∧
              word16 p (14 + 8 * i.val) = b.start % 65536 ∧ word16 p (16 + 8 * i.val) = b.exportTarget % 65536 ∧
              byteAt p (18 + 8 * i.val) = b.rampLimit % 256 ∧
              word16 p (19 + 8 * i.val) = b.duration.getD 65535 % 65536) ∧
            (s.sched.queue[start + 4 + i.val]? = some b → byteAt q (8 * i.val) = b.day % 256 ∧
              word16 q (1 + 8 * i.val) = b.start % 65536 ∧ word16 q (3 + 8 * i.val) = b.exportTarget % 65536 ∧
              byteAt q (5 + 8 * i.val) = b.rampLimit % 256 ∧
              word16 q (6 + 8 * i.val) = b.duration.getD 65535 % 65536))

/-! ### The pacing generators -/

/-- SOURCE_SELECT (R111). A generator or source code outside its range is refused BAD_VALUE (the answer bytes of an unnamed
generator are free, log 3). Otherwise ACCEPTED in any line state and run state: the same source changes nothing; to MANUAL
stops the generator with its countdown cleared, its buffer taken and its pending stroke dropped; to AUTO with permission
starts it by preset, or IDLE without a period; in FAULT the source alone changes. A stroke in flight stays in flight. -/
def Obligations.SourceSelect : Prop :=
  ∀ (f : Frame) (st : Station) (l : Line) (s : State), Reaches .sourceSelect f st l s →
    (genOfNumber (byteAt f.payload 0) = none →
      ∃ t, exec (.sourceSelect f) s = .next t ∧ t.bus = s.bus.answering 0x0C#8 f .badValue t.payload ∧
        t.payload.length = 2 ∧ { t with bus := s.bus, freeCount := s.freeCount } = s) ∧
    ∀ k, genOfNumber (byteAt f.payload 0) = some k →
      let g := s.gen l k
      (1 < byteAt f.payload 1 →
        exec (.sourceSelect f) s = .next { s with
          bus := s.bus.answering 0x0C#8 f .badValue (u8 g.source.code ++ u8 g.run.code) }) ∧
      (byteAt f.payload 1 ≤ 1 →
        ∃ t, exec (.sourceSelect f) s = .next t ∧
          t.bus = s.bus.answering 0x0C#8 f .accepted (u8 (t.gen l k).source.code ++ u8 (t.gen l k).run.code) ∧
          { s.setGen l k (t.gen l k) with bus := t.bus } = t ∧
          (t.gen l k).source = (if byteAt f.payload 1 = 0 then .auto else .manual) ∧
          ((t.gen l k).source = g.source → t.gen l k = g) ∧
          (g.run = .fault → t.gen l k = { g with source := (t.gen l k).source }) ∧
          (g.source = .auto → byteAt f.payload 1 = 1 → g.run ≠ .fault →
            t.gen l k = { g with
              current := g.periodTaken, buffer := .empty, source := .manual, run := .stopped, countdown := none, pending := false }) ∧
          (g.source = .manual → byteAt f.payload 1 = 0 → g.run ≠ .fault →
            ((s.lineState l).permits k = false → t.gen l k = { g with source := .auto }) ∧
            ((s.lineState l).permits k = true → g.current = none →
              t.gen l k = { g with source := .auto, run := .idle, countdown := none }) ∧
            (∀ q, (s.lineState l).permits k = true → g.current = some q → g.countdown = none →
              t.gen l k = { g with source := .auto, run := .running, countdown := some (q / 64), trimAcc := 0 })))

/-- MANUAL_STROKE (R112), the first matching case deciding: BAD_VALUE for a number outside 1 to 6 (its answer bytes free,
log 3), NOT_CONFIGURED, BAD_STATE for source AUTO, for FAULT and for the line states each generator may not stroke in,
BUSY with the output ACTIVE; otherwise ACCEPTED, and the stroke or pulse starts at once, stamped with the present tick
and, for a stroke, under the limits in force (R104). Nothing else moves. -/
def Obligations.ManualStroke : Prop :=
  ∀ (f : Frame) (st : Station) (l : Line) (s : State), Reaches .manualStroke f st l s →
    (genOfNumber (byteAt f.payload 0) = none →
      ∃ t, exec (.manualStroke f) s = .next t ∧ t.bus = s.bus.answering 0x0D#8 f .badValue t.payload ∧
        t.payload.length = 5 ∧ { t with bus := s.bus, freeCount := s.freeCount } = s) ∧
    ∀ k, genOfNumber (byteAt f.payload 0) = some k →
      let g := s.gen l k
      let refused (c : Code) : Host.Outcome State Fault Refusal :=
        .next { s with bus := s.bus.answering 0x0D#8 f c (u8 g.phase.code ++ u32 g.completed.toNat) }
      let barred : Bool := match k with
        | .feed => s.lineState l = .offline || s.lineState l = .hold || s.lineState l = .burnout ||
          s.lineState l = .tripped
        | .z1 | .z2 | .z3 => s.lineState l = .tripped
        | .nox | .acid => s.lineState l = .offline || s.lineState l = .tripped
      (g.configured = false → exec (.manualStroke f) s = refused .notConfigured) ∧
      (g.configured = true → g.source = .auto ∨ g.run = .fault ∨ barred = true →
        exec (.manualStroke f) s = refused .badState) ∧
      (g.configured = true → g.source = .manual → g.run ≠ .fault → barred = false →
        (g.phase = .active → exec (.manualStroke f) s = refused .busy) ∧
        (g.phase = .rest →
          exec (.manualStroke f) s = .next { s.setGen l k { g with
            phase := .active
            activeSince := s.time.tick
            limitMin := if (asStroke k).isSome then (s.genConfig l k).strokeMin else g.limitMin
            limitMax := if (asStroke k).isSome then (s.genConfig l k).strokeMax else g.limitMax } with
            bus := s.bus.answering 0x0D#8 f .accepted (u8 1 ++ u32 g.completed.toNat) }))

/-- FAULT_CLEAR (R110). A number outside 1 to 6 is refused BAD_VALUE (the run state in its answer free, log 3), a generator
not in FAULT BAD_STATE. A generator in FAULT leaves it with no faults in a row and permission decided again. With another
generator of the line in FAULT nothing more happens; with none left JAM ends and leaves the line's hold reasons (R10), and
a line so left without a reason returns to FIRING_UP, or to CONNECTED with the recomputation (R6).
The revision count of a recomputation that sheds and leaves the record equal is log 23. -/
def Obligations.FaultClear : Prop :=
  ∀ (f : Frame) (st : Station) (l : Line) (s : State), Reaches .faultClear f st l s →
    (genOfNumber (byteAt f.payload 0) = none →
      ∃ t, exec (.faultClear f) s = .next t ∧ t.bus = s.bus.answering 0x0E#8 f .badValue t.payload ∧
        t.payload.length = 2 ∧ byteAt t.payload 1 = (s.lineState l).code ∧
        { t with bus := s.bus, freeCount := s.freeCount } = s) ∧
    ∀ k, genOfNumber (byteAt f.payload 0) = some k →
      let g := s.gen l k
      let others : Bool := allGens.any (fun x => decide (x ≠ k) && decide ((s.gen l x).run = .fault))
      (g.run ≠ .fault →
        exec (.faultClear f) s = .next { s with
          bus := s.bus.answering 0x0E#8 f .badState (u8 g.run.code ++ u8 (s.lineState l).code) }) ∧
      (g.run = .fault →
        ∃ t, exec (.faultClear f) s = .next t ∧
          t.bus = s.bus.answering 0x0E#8 f .accepted (u8 (t.gen l k).run.code ++ u8 (t.lineState l).code) ∧
          (t.gen l k).run ≠ .fault ∧ (t.gen l k).consecutive = 0 ∧ (t.gen l k).source = g.source ∧
          (t.gen l k).permitted = (decide (g.source = .auto) && (t.lineState l).permits k) ∧
          (others = true → { s.setGen l k (t.gen l k) with bus := t.bus } = t) ∧
          (others = false → t.conditionHolds (.jam l) = false ∧ t.flagSet (.jam l) = s.flagSet (.jam l) ∧
            (s.lineState l ≠ .hold ∨ (s.line l).reasons.jam = false →
              { s.setGen l k (t.gen l k) with bus := t.bus, flags := t.flags } = t ∧ FlagsKept (fun _ => False) s t) ∧
            (s.lineState l = .hold → (s.line l).reasons.jam = true →
              ((s.line l).reasons.requested = true ∨ (s.line l).reasons.shed = true →
                t.line l = { s.line l with reasons := { (s.line l).reasons with jam := false } } ∧
                { (s.setGen l k (t.gen l k)).setLine l (t.line l) with bus := t.bus, flags := t.flags } = t) ∧
              ((s.line l).reasons = ⟨false, false, true⟩ → (s.line l).returnTo = some .firingUp →
                t.line l =
                  { s.line l with state := .firingUp, reasons := ⟨false, false, false⟩, returnTo := none } ∧
                (t.feed.get l).held = false ∧ LineOnly l s t ∧ FlagsKept (· = .dosingLimit) s t) ∧
              ((s.line l).reasons = ⟨false, false, true⟩ → (s.line l).returnTo = some .connected →
                Recomputed (s.connectedSet.set l true) s t ∧ PlantOnly s t ∧ FlagsKept allocFlags s t))))

/-- Edges on the stroke-complete inputs (R93, R105, R107, R108). Every edge moves the input's level alone unless the input is
sensed and the edge is of the selected kind. Such an edge at REST is a stray edge: counted, recorded with the time of day,
STROKE_FAULT set. At or after stroke_min it completes the stroke: the output rests, the duration is captured, the
completed count rises, the faults in a row end, and a pending stroke starts at once under the limits then in force; a
feeder stroke adds its charge to the current block (R87). Nothing else moves. -/
def Obligations.StrokeCompletes : Prop :=
  ∀ (l : Line) (sg : StrokeGen) (e : Edge) (s : State),
    let k := strokeGen sg
    let g := s.gen l k
    let cfg := s.genConfig l k
    let moved : Pins := { s.pins with
      strokeComplete := s.pins.strokeComplete.set l ((s.pins.strokeComplete.get l).set sg (decide (e = .rising))) }
    let sensed : Prop := s.pins.resetLow = false ∧ g.configured = true ∧ e = cfg.completeEdge
    (¬ sensed → exec (.strokeCompleteEdge l sg e) s = .next { s with pins := moved }) ∧
    (sensed → g.phase = .rest →
      ∃ t, exec (.strokeCompleteEdge l sg e) s = .next t ∧
        { s.setGen l k { g with
          stray := g.stray + 1
          lastFault := some ⟨.stray, s.time.clock.minute, s.time.clock.second, s.time.clock.hundredth,
            s.time.clock.valid⟩ } with pins := moved, flags := t.flags } = t ∧
        t.flagSet (.strokeFault l) = true ∧ FlagsKept (· = .strokeFault l) s t) ∧
    (sensed → g.phase = .active → g.limitMin ≤ s.elapsed g.activeSince →
      ∃ t, exec (.strokeCompleteEdge l sg e) s = .next t ∧
        { (s.setGen l k (t.gen l k)).setFeed l (t.feed.get l) with pins := moved } = t ∧
        t.feed.get l = (if sg = .feed then
          { s.feed.get l with
            strokes := (s.feed.get l).strokes + 1, mass := (s.feed.get l).mass + (s.lineConfig l).strokeCharge }
          else s.feed.get l) ∧
        (g.pending = false → t.gen l k = { g with
          phase := .rest
          lastDuration := some (s.elapsed g.activeSince)
          completed := g.completed + 1
          consecutive := 0 }) ∧
        (g.pending = true → t.gen l k = { g with
          phase := .active
          pending := false
          activeSince := s.time.tick
          limitMin := cfg.strokeMin
          limitMax := cfg.strokeMax
          lastDuration := some (s.elapsed g.activeSince)
          completed := g.completed + 1
          consecutive := 0 }))

/-- The stroke faults EARLY, on a selected edge before stroke_min (R105), and LATE, at the lapse of stroke_max (R106): the
stroke ends (R107), the fault is counted, recorded with its duration and the time of day, and STROKE_FAULT set; a pending
stroke then starts. The third fault in a row puts the generator in FAULT with its pending stroke, countdown and buffer
emptied (R109): JAM arises, and by the line's state (R10) a feeding line enters HOLD with JAM, a held line adds the
reason, any other stays. Before its time a lapse changes nothing (the model's choice, log 4). (A generator in FAULT has no stroke in flight: see
GeneratorsStaySound.)
The revision count of a recomputation that sheds and leaves the record equal is log 23. -/
def Obligations.StrokeFaults : Prop :=
  ∀ (l : Line) (sg : StrokeGen) (s : State),
    let k := strokeGen sg
    let g := s.gen l k
    let cfg := s.genConfig l k
    let d := s.elapsed g.activeSince
    let lapsed : Prop := g.phase = .active ∧ g.limitMax ≤ d
    let early : Prop :=
      s.pins.resetLow = false ∧ g.configured = true ∧ g.phase = .active ∧ d < g.limitMin
    let fault (kind : FaultKind) (dur : Nat) : GenRecord := { g with
      early := if kind = .early then g.early + 1 else g.early
      late := if kind = .late then g.late + 1 else g.late
      phase := .rest
      lastDuration := some dur
      lastFault := some ⟨kind, s.time.clock.minute, s.time.clock.second, s.time.clock.hundredth, s.time.clock.valid⟩
      consecutive := g.consecutive + 1 }
    let ended (kind : FaultKind) (dur : Nat) (t : State) : Prop :=
      t.flagSet (.strokeFault l) = true ∧
      (g.consecutive + 1 < 3 →
        { s.setGen l k (t.gen l k) with pins := t.pins, flags := t.flags } = t ∧
        FlagsKept (· = .strokeFault l) s t ∧
        (g.pending = false → t.gen l k = fault kind dur) ∧
        (g.pending = true → t.gen l k = { fault kind dur with
          phase := .active
          pending := false
          activeSince := s.time.tick
          limitMin := cfg.strokeMin
          limitMax := cfg.strokeMax })) ∧
      (3 ≤ g.consecutive + 1 →
        t.gen l k =
          { fault kind dur with
            current := g.periodTaken, buffer := .empty, run := .fault, pending := false, countdown := none } ∧
        t.flagSet (.jam l) = true ∧ t.conditionHolds (.jam l) = true ∧
        (ConnectSound s → (s.lineState l).feeding = true →
          t.lineState l = .hold ∧ (t.line l).reasons = ⟨false, false, true⟩ ∧
          (t.line l).returnTo = some (if s.lineState l = .connected then .connected else .firingUp) ∧
          t.flagSet (.stateChanged l) = true ∧
          (s.lineState l = .connected → Recomputed (s.connectedSet.set l false) s t) ∧
          PlantOnly s { t with pins := s.pins }) ∧
        (s.lineState l = .hold → t.line l = { s.line l with reasons := { (s.line l).reasons with jam := true } } ∧
          { (s.setGen l k (t.gen l k)).setLine l (t.line l) with pins := t.pins, flags := t.flags } = t) ∧
        ((s.lineState l).feeding = false → s.lineState l ≠ .hold →
          { s.setGen l k (t.gen l k) with pins := t.pins, flags := t.flags } = t))
    (early → g.run ≠ .fault → ∃ t, exec (.strokeCompleteEdge l sg cfg.completeEdge) s = .next t ∧ ended .early d t) ∧
    (lapsed → g.run ≠ .fault → ∃ t, exec (.strokeMaxLapse l sg) s = .next t ∧ t.pins = s.pins ∧ ended .late g.limitMax t) ∧
    (¬ lapsed → exec (.strokeMaxLapse l sg) s = .next s)

/-- The expiry of a countdown (R100, R101). A buffered none makes the generator IDLE, with no period, countdown or pending
stroke and no stroke started. Otherwise the countdown is loaded with P, or P + 1 when the trims have filled 64 fine units,
and by the output's phase a stroke starts, waits, or is dropped with the overrun counted and OVERRUN set. Nothing else
moves, and nothing at all before the countdown's last tick (the model's choice, log 4). The trim accumulator loses nothing: from any accumulator 0 to
63, 64 reloads of one period of Q fine units count Q ticks in all, and leave the accumulator as it was. -/
def Obligations.CountdownExpiry : Prop :=
  (∀ (l : Line) (k : Gen) (s : State),
    let g := s.gen l k
    let cfg := s.genConfig l k
    (g.run ≠ .running ∨ g.countdown ≠ some 1 → exec (.countdownExpiry l k) s = .next s) ∧
    (g.run = .running → g.countdown = some 1 → g.buffer = .none →
      exec (.countdownExpiry l k) s = .next (s.setGen l k { g with
        current := none, buffer := .empty, countdown := none, pending := false, run := .idle })) ∧
    ∀ q, g.periodTaken = some q → g.run = .running → g.countdown = some 1 → g.buffer ≠ .none →
      let carry : Bool := decide (64 ≤ g.trimAcc + q % 64)
      let loaded : GenRecord := { g with
        current := some q
        buffer := .empty
        countdown := some (if carry then q / 64 + 1 else q / 64)
        trimAcc := if carry then g.trimAcc + q % 64 - 64 else g.trimAcc + q % 64 }
      (g.phase = .rest → exec (.countdownExpiry l k) s = .next (s.setGen l k { loaded with
        phase := .active
        activeSince := s.time.tick
        limitMin := if (asStroke k).isSome then cfg.strokeMin else g.limitMin
        limitMax := if (asStroke k).isSome then cfg.strokeMax else g.limitMax })) ∧
      (g.phase = .active → g.pending = false →
        exec (.countdownExpiry l k) s = .next (s.setGen l k { loaded with pending := true })) ∧
      (g.phase = .active → g.pending = true →
        ∃ t, exec (.countdownExpiry l k) s = .next t ∧
          { s.setGen l k { loaded with overrun := g.overrun + 1 } with flags := t.flags } = t ∧
          t.flagSet (.overrun l) = true ∧ FlagsKept (· = .overrun l) s t)) ∧
  ∀ (g : GenRecord) (q : Nat), g.trimAcc < 64 →
    let after (n : Nat) : GenRecord := Nat.repeat (fun r : GenRecord => r.reload q) n g
    ((List.range 64).map (fun i => (after (i + 1)).countdown.getD 0)).sum = q ∧ (after 64).trimAcc = g.trimAcc

/-- Pulses counted. A reagent pulse completes at pulse_width ticks (R113): the output rests, the completed count and the block
count rise, the block count stopping at 65535, and a pending pulse starts at once (R101, R107); before that the command
changes nothing (the model's choice, log 4). A steam pulse counts on the edge in force of a sensing counter alone, and
raises all three of its counts (R114). Nothing else moves but the input's level. -/
def Obligations.PulsesCounted : Prop :=
  ∀ s : State,
    (∀ (l : Line) (c : Channel),
      let k := channelGen c
      let g := s.gen l k
      let lapsed : Prop := g.phase = .active ∧ (s.genConfig l k).pulseWidth ≤ s.elapsed g.activeSince
      (¬ lapsed → exec (.pulseComplete l c) s = .next s) ∧
      (lapsed → g.pending = false →
        exec (.pulseComplete l c) s = .next (s.setGen l k { g with
          phase := .rest
          completed := g.completed + 1
          blockPulses := if g.blockPulses < 65535 then g.blockPulses + 1 else 65535 })) ∧
      (lapsed → g.pending = true →
        exec (.pulseComplete l c) s = .next (s.setGen l k { g with
          pending := false
          activeSince := s.time.tick
          completed := g.completed + 1
          blockPulses := if g.blockPulses < 65535 then g.blockPulses + 1 else 65535 }))) ∧
    ∀ (l : Line) (e : Edge),
      let c := s.counters.get l
      let moved : Pins := { s.pins with steam := s.pins.steam.set l (decide (e = .rising)) }
      (s.pins.resetLow = true ∨ c.sensing = false ∨ e ≠ c.edge →
        exec (.steamPulse l e) s = .next { s with pins := moved }) ∧
      (s.pins.resetLow = false → c.sensing = true → e = c.edge →
        exec (.steamPulse l e) s = .next { s with
          pins := moved
          counters := s.counters.set l { c with
            minuteCount := if c.minuteCount < 65535 then c.minuteCount + 1 else 65535
            blockCount := if c.blockCount < 65535 then c.blockCount + 1 else 65535
            total := c.total + 1 } })

/-! ### The turbine controller's reports -/

/-- HEADER_STATE, sent to the part or broadcast (R17): the pressure clamped to 20000 and the rise rate to 2000 either way, with
the present tick and a fresh mark; HEADER_STALE ends for both stations, and the grant test runs (R23). With the slot
taken, no line waiting or the header not open nothing else moves. HEADER_STALE (R18) comes 500 ticks after the arrival and
not before (the model's choice, log 4); the record keeps its values. -/
def Obligations.HeaderReports : Prop :=
  ∀ (f : Frame) (st : Station) (l : Line) (s : State),
    let h : Header := ⟨min (word16 f.payload 0) 20000, max (-2000) (min (int16 f.payload 2) 2000), s.time.tick, false⟩
    let s' : State := { s with registry := { s.registry with header := h } }
    let taken (t : State) : Prop :=
      t.registry.header = h ∧ t.conditionHolds .headerStaleTurbine = false ∧
        t.conditionHolds .headerStaleSupervisory = false ∧
        (s.registry.slot = none → GrantRun s.registry.queue s' t) ∧
        (s.registry.slot ≠ none ∨ s.registry.queue = [] ∨ s'.headerOpen = false →
          { t with bus := s.bus, flags := s.flags } = s' ∧ FlagsKept (fun _ => False) s t) ∧
        PlantOnly s t
    (Reaches .headerState f st l s →
      ∃ t, exec (.headerState f) s = .next t ∧ t.bus = s.bus.answering 0x20#8 f .accepted [] ∧ taken t) ∧
    (ReachesAll .headerState f s →
      ∃ t, exec (.headerState f) s = .next t ∧ t.bus = s.bus.passed 0x20#8 f ∧ taken t) ∧
    (s.registry.header.stale = false → 500 ≤ s.elapsed s.registry.header.arrival →
      ∃ t, exec .headerStale s = .next t ∧
        { t with flags := s.flags } =
          { s with registry := { s.registry with header := { s.registry.header with stale := true } } } ∧
        t.flagSet .headerStaleTurbine = true ∧ t.conditionHolds .headerStaleTurbine = true ∧
        t.flagSet .headerStaleSupervisory = true ∧ t.conditionHolds .headerStaleSupervisory = true ∧
        FlagsKept (fun x => x = .headerStaleTurbine ∨ x = .headerStaleSupervisory) s t) ∧
    (s.registry.header.stale = true ∨ s.elapsed s.registry.header.arrival < 500 →
      exec .headerStale s = .next s)

/-- TURBINE_STATE, sent to the part or broadcast (R65): the record takes state and limit with the present tick and REPORTING,
TURBINE_SILENT ends, and ceiling (R67) and mode (R68) are decided; a change of either runs one recomputation, after which
E_r follows the admission target (R72). A bad code is refused BAD_VALUE. 500 ticks without a report make the record SILENT,
and 3000 LOST: ceiling 0 and STEAM_LED, with a recomputation when that changes either (R66). Before their time the two
change nothing (the model's choice, log 4); that LOST raises the TURBINE_SILENT flag is log 17. A change of
either in POWER_LED hands the demand char(E_r) as it stands (R30; 4.12, step 5).
The revision count of a recomputation that sheds and leaves the record equal is log 23. -/
def Obligations.TurbineReports : Prop :=
  ∀ (f : Frame) (st : Station) (l : Line) (s : State),
    let decided (u : TurbineRecord) (c : Nat) (m : Mode) (t : State) : Prop :=
      let s' : State := { s with sched := { s.sched with
        turbine := u
        ceiling := c
        mode := m
        handed := if m = .powerLed ∧ (c ≠ s.sched.ceiling ∨ m ≠ s.sched.mode) then
          charLookup s.config.plant s.sched.ramped else s.sched.handed } }
      t.sched = { s'.sched with ramped := t.sched.ramped } ∧
        (c = s.sched.ceiling → m = s.sched.mode → { t with bus := s.bus, flags := s.flags } = s') ∧
        (c ≠ s.sched.ceiling ∨ m ≠ s.sched.mode →
          Recomputed s.connectedSet s' t ∧ ExportFollows s' t ∧ PlantOnly s t)
    (∀ x, turbineStateOfCode (byteAt f.payload 0) = some x →
      let taken (t : State) : Prop :=
        t.conditionHolds .turbineSilent = false ∧ FlagsKept allocFlags s t ∧
        decided ⟨x, word16 f.payload 1, s.time.tick, .reporting⟩
          (if x = .runUp ∨ x = .onGrid then min s.config.plant.turbineMax (word16 f.payload 1) else 0)
          (if s.sched.active.isSome = true ∧ x = .onGrid then .powerLed else .steamLed) t
      (Reaches .turbineState f st l s →
        ∃ t, exec (.turbineState f) s = .next t ∧ t.bus = s.bus.answering 0x21#8 f .accepted [] ∧ taken t) ∧
      (ReachesAll .turbineState f s →
        ∃ t, exec (.turbineState f) s = .next t ∧ t.bus = s.bus.passed 0x21#8 f ∧ taken t)) ∧
    (3 < byteAt f.payload 0 →
      (Reaches .turbineState f st l s →
        exec (.turbineState f) s = .next { s with bus := s.bus.answering 0x21#8 f .badValue [] }) ∧
      (ReachesAll .turbineState f s → exec (.turbineState f) s = .next { s with bus := s.bus.passed 0x21#8 f })) ∧
    (s.pins.resetLow = false →
      (s.sched.turbine.silence = .reporting → 500 ≤ s.elapsed s.sched.turbine.arrival →
        ∃ t, exec .turbineSilent s = .next t ∧
          { t with flags := s.flags } =
            { s with sched := { s.sched with turbine := { s.sched.turbine with silence := .silent } } } ∧
          t.flagSet .turbineSilent = true ∧ t.conditionHolds .turbineSilent = true ∧
          FlagsKept (· = .turbineSilent) s t) ∧
      (s.sched.turbine.silence ≠ .lost → 3000 ≤ s.elapsed s.sched.turbine.arrival →
        ∃ t, exec .turbineLost s = .next t ∧ t.bus = s.bus ∧
          t.flagSet .turbineSilent = true ∧ t.conditionHolds .turbineSilent = true ∧
          FlagsKept (fun x => x = .turbineSilent ∨ allocFlags x) s t ∧
          decided { s.sched.turbine with silence := .lost } 0 .steamLed t)) ∧
    (s.sched.turbine.silence ≠ .reporting ∨ s.elapsed s.sched.turbine.arrival < 500 →
      exec .turbineSilent s = .next s) ∧
    (s.sched.turbine.silence = .lost ∨ s.elapsed s.sched.turbine.arrival < 3000 → exec .turbineLost s = .next s)

/-- The characteristic table (R69), eight points strictly rising in both columns: char and inv give the end points beyond the
ends and the rounded-down interpolation of the segment in between; from p1 on the way there and back never rises, and
below p1 it gives p1. -/
def Obligations.Lookups : Prop :=
  ∀ c : PlantConfig, c.charP.length = 8 → c.charS.length = 8 → increasing c.charP = true →
    increasing c.charS = true →
    let p (i : Nat) : Nat := c.charP.getD i 0
    let q (i : Nat) : Nat := c.charS.getD i 0
    (∀ x, (x ≤ p 0 → charLookup c x = q 0) ∧ (p 7 ≤ x → charLookup c x = q 7) ∧
      ∀ k, k < 7 → p k ≤ x → x < p (k + 1) →
        charLookup c x = q k + (x - p k) * (q (k + 1) - q k) / (p (k + 1) - p k)) ∧
    (∀ x, (x ≤ q 0 → invLookup c x = p 0) ∧ (q 7 ≤ x → invLookup c x = p 7) ∧
      ∀ k, k < 7 → q k ≤ x → x < q (k + 1) →
        invLookup c x = p k + (x - q k) * (p (k + 1) - p k) / (q (k + 1) - q k)) ∧
    ∀ x, (p 0 ≤ x → invLookup c (charLookup c x) ≤ x) ∧ (x < p 0 → invLookup c (charLookup c x) = p 0)

/-! ### The cleaning controller's requests -/

/-- SAMPLE (R118, R120). An O2 reading above 2100 is refused BAD_VALUE and a sample for an OFFLINE line is accepted and dropped;
nothing moves (the places of their answers without a value are free, log 3). Otherwise the sample is stored normalised,
replacing one already in the store: wholly invalid when its O2 is marked invalid or reads 2000 or more; else each
concentration marked valid is corrected above o_ref, rounded to the nearest, saturating at 65535. -/
def Obligations.SampleStored : Prop :=
  ∀ (f : Frame) (st : Station) (l : Line) (s : State), Reaches .sample f st l s →
    let o := word16 f.payload 0
    let marks := byteAt f.payload 14
    let r := s.ledger.get l
    let oRef := s.config.plant.oRef
    (2100 < o →
      ∃ t, exec (.sample f) s = .next t ∧ t.bus = s.bus.answering 0x30#8 f .badValue t.payload ∧
        t.payload.length = 3 ∧ byteAt t.payload 2 = r.nOp % 256 ∧
        { t with bus := s.bus, freeCount := s.freeCount } = s) ∧
    (o ≤ 2100 → s.lineState l = .offline →
      ∃ t, exec (.sample f) s = .next t ∧ t.bus = s.bus.answering 0x30#8 f .accepted t.payload ∧
        t.payload.length = 3 ∧ byteAt t.payload 0 = 0 ∧ byteAt t.payload 2 = r.nOp % 256 ∧
        { t with bus := s.bus, freeCount := s.freeCount } = s) ∧
    (o ≤ 2100 → s.lineState l ≠ .offline →
      let bad : Bool := !bitAt marks 6 || decide (2000 ≤ o)
      let value (i : Nat) : Option Nat :=
        let c := word16 f.payload (2 + 2 * i)
        if bad || !bitAt marks i then none
        else if o ≤ oRef then some c
        else some (min 65535 ((c * (2100 - oRef) + (2100 - o) / 2) / (2100 - o)))
      let x : StoredSample := ⟨o, ⟨value 0, value 1, value 2, value 3, value 4, value 5⟩, bad⟩
      exec (.sample f) s = .next { s.setLedger l { r with store := some x } with
        bus := s.bus.answering 0x30#8 f (if r.store.isSome then .acceptedReplaced else .accepted)
          (u8 (if r.store.isSome then 2 else 1) ++ u8 (if bad then 1 else 0) ++ u8 r.nOp) })

/-- DOSE_OVERRIDE and DOSE_AUTO (R154 to R158, R161) in every line state. A bad channel is refused BAD_VALUE (its answer free
but for the line state, log 3). The mode and the override rate, clamped to rate_max with ACCEPTED_CLAMPED, are taken, and one
computation follows (`DoseComputed`). Where the line doses: the fed-forward rate, the trim on it in AUTO, the limit, the
period and paced rate, the marks, and the period handed to the channel's generator, which takes it by its run state
(`Handed`, R102); in OFFLINE and TRIPPED rate 0 and no marks, the fed-forward rate written all the same (log 15). The trim
stands. DOSING_LIMIT follows. Nothing else moves. -/
def Obligations.DoseRequests : Prop :=
  ∀ (f : Frame) (st : Station) (l : Line) (s : State),
    let done (c : Channel) (mode : DosingMode) (given : Nat) (t : State) : Prop :=
      DoseComputed l c { s.dose l c with mode := mode, overrideRate := given } s t ∧
        { (s.setDose l c (t.dose l c)).setGen l (channelGen c) (t.gen l (channelGen c)) with
          bus := t.bus, flags := t.flags } = t ∧
        FlagsKept (· = .dosingLimit) s t
    let shown (c : Channel) (t : State) : List Byte :=
      u8 (t.dose l c).mode.code ++ u24 (t.dose l c).overrideRate ++ u24 (t.dose l c).rate ++ u8 (t.lineState l).code
    let refused (t : State) : Prop :=
      t.payload.length = 8 ∧ byteAt t.payload 7 = (s.lineState l).code ∧
        { t with bus := s.bus, freeCount := s.freeCount } = s
    (Reaches .doseOverride f st l s →
      (channelOfCode (byteAt f.payload 0) = none →
        ∃ t, exec (.doseOverride f) s = .next t ∧ t.bus = s.bus.answering 0x31#8 f .badValue t.payload ∧ refused t) ∧
      ∀ c, channelOfCode (byteAt f.payload 0) = some c →
        let most := (s.dosingConfig l c).rateMax
        let asked := word24 f.payload 1
        ∃ t, exec (.doseOverride f) s = .next t ∧
          t.bus = s.bus.answering 0x31#8 f (if most < asked then .acceptedClamped else .accepted) (shown c t) ∧
          done c .override (min asked most) t) ∧
    (Reaches .doseAuto f st l s →
      (channelOfCode (byteAt f.payload 0) = none →
        ∃ t, exec (.doseAuto f) s = .next t ∧ t.bus = s.bus.answering 0x32#8 f .badValue t.payload ∧ refused t) ∧
      ∀ c, channelOfCode (byteAt f.payload 0) = some c →
        ∃ t, exec (.doseAuto f) s = .next t ∧ t.bus = s.bus.answering 0x32#8 f .accepted (shown c t) ∧
          done c .auto (s.dose l c).overrideRate t)

/-! ### The supervisory station's requests -/

/-- CLOCK_SET with every fitted line OFFLINE, a full set (R51, R52, R132), to the part or broadcast (R167; a broadcast acts
alike and has no answer): the clock shows the time named, valid, with no hold; the ledger of every fitted line restarts,
its divisions of the half hour that lie before the set IDLE, the others OPEN, each with n_op 0 and v 0 (log 16), and the
last-day records kept; the pulse counts and the current mass restart; the schedule empties, without an active block and in
STEAM_LED: where the mode was POWER_LED one recomputation runs, after which E_r follows the admission target (R68, R72),
and where it was STEAM_LED, with the ceiling as R67 has it, none does. The tick count and every timer run on (R49): the
arrivals of header and turbine, the connect slot, and of every OFFLINE line the generators, strokes in flight among them,
but for the block pulse counts, and the rest of its records. A value above 86399 is refused BAD_VALUE.
The revision count of a recomputation that sheds and leaves the record equal is log 23. -/
def Obligations.ClockFullSet : Prop :=
  ∀ (f : Frame) (st : Station) (l : Line) (s : State),
    let shown (c : Clock) : List Byte :=
      u16 c.minute ++ u8 c.second ++ u8 c.hundredth ++ u8 (if c.valid then 1 else 0) ++ u16 c.hold
    let secs := word24 f.payload 0
    let minute := secs / 60
    let entry (i : Nat) : BlockEntry := ⟨if 10 * (i + 1) ≤ minute % 30 then .idle else .opened, 0, 0⟩
    let set (t : State) : Prop :=
      t.time = { s.time with clock := ⟨minute, secs % 60, 0, true, 0⟩ } ∧
        t.conditionHolds .clockInvalid = false ∧
        (∀ k, s.fitted k = false → t.ledger.get k = s.ledger.get k) ∧
        (∀ k, s.fitted k = true → (t.ledger.get k).store = none ∧ (t.ledger.get k).nOp = 0 ∧
          ∀ p, (t.ledger.get k).channels.get p = { (s.ledger.get k).channels.get p with
            sum := 0, count := 0, block0 := entry 0, block1 := entry 1, block2 := entry 2, history := []
            day := ⟨0, 0, 0, 0, minute⟩ }) ∧
        (∀ k, t.counters.get k = { s.counters.get k with minuteCount := 0, blockCount := 0 } ∧
          (t.gen k .nox).blockPulses = 0 ∧ (t.gen k .acid).blockPulses = 0 ∧
          (t.feed.get k).strokes = 0 ∧ (t.feed.get k).mass = 0) ∧
        t.sched.queue = [] ∧ t.sched.active = none ∧ t.sched.mode = .steamLed ∧
        t.conditionHolds .scheduleLow = decide (0 < s.config.plant.lowWater) ∧
        t.config = s.config ∧ t.monitor = s.monitor ∧ t.registry.header = s.registry.header ∧ t.pins = s.pins ∧
        t.sched.turbine = s.sched.turbine ∧ t.sched.handed = s.sched.handed ∧ t.alloc.aux = s.alloc.aux ∧
        t.registry.slot = s.registry.slot ∧ t.registry.queue = s.registry.queue ∧
        (∀ k, s.lineState k = .offline → t.line k = s.line k ∧ t.dosing.get k = s.dosing.get k ∧
          t.feed.get k = { s.feed.get k with strokes := 0, mass := 0 } ∧
          ∀ g, t.gen k g = { s.gen k g with
            blockPulses := if g = .nox ∨ g = .acid then 0 else (s.gen k g).blockPulses }) ∧
        (s.sched.mode = .powerLed →
          let cleared : State := { s with sched := { s.sched with
            queue := [], active := none, mode := .steamLed, ceiling := s.ceilingNow } }
          Recomputed s.connectedSet cleared t ∧ ExportFollows cleared t) ∧
        (s.sched.mode = .steamLed → s.sched.ceiling = s.ceilingNow →
          t.alloc = s.alloc ∧ t.sched = { s.sched with queue := [], active := none }) ∧
        FlagsKept (fun x => allocFlags x ∨ x = .scheduleLow) s t
    let offline : Prop := (∀ k, s.fitted k = true → s.lineState k = .offline) ∧ s.time.slotDue = false ∧
      s.time.minuteDue = false
    (Reaches .clockSet f st l s →
      (86399 < secs → exec (.clockSet f) s = .next { s with
        bus := s.bus.answering 0x40#8 f .badValue (shown s.time.clock) }) ∧
      (secs ≤ 86399 → offline →
        ∃ t, exec (.clockSet f) s = .next t ∧ t.bus = s.bus.answering 0x40#8 f .accepted (shown t.time.clock) ∧
          set t)) ∧
    (ReachesAll .clockSet f s →
      (86399 < secs → exec (.clockSet f) s = .next { s with bus := s.bus.passed 0x40#8 f }) ∧
      (secs ≤ 86399 → offline →
        ∃ t, exec (.clockSet f) s = .next t ∧ t.bus = s.bus.passed 0x40#8 f ∧ set t))

/-- CLOCK_SET with a line not OFFLINE, a trim (R51, R53, R54, R55), by the difference `d` of the time named and the reckoned
time on its short way round, to the part or broadcast (R167; a broadcast acts alike and has no answer). Refused BAD_STATE
when `d` is above 3000 ticks either way or would bring the hold above 3000. A `d` up to the hold remaining moves the hold
alone. A larger one ends the hold and jumps the time of day forward (`Jumped`): at each boundary passed its close and, on
a minute, its minute event are taken, in order. The time of day never moves backward, and the tick count not at all. Apart
from any of this, HOLD_END, the last tick of a hold as a command (log 1), ends a hold of 1, and changes nothing otherwise
(log 4). -/
def Obligations.ClockTrim : Prop :=
  (∀ (f : Frame) (st : Station) (l : Line) (s : State) (d : Int),
    word24 f.payload 0 ≤ 86399 → (∃ k, s.fitted k = true ∧ s.lineState k ≠ .offline) → ClockSound s →
    s.time.slotDue = false → s.time.minuteDue = false → -4320000 ≤ d → d < 4320000 →
    ((s.time.clock.ticks : Int) - s.time.clock.hold + d - (word24 f.payload 0 : Int) * 100) % 8640000 = 0 →
    let shown (c : Clock) : List Byte :=
      u16 c.minute ++ u8 c.second ++ u8 c.hundredth ++ u8 (if c.valid then 1 else 0) ++ u16 c.hold
    let c := s.time.clock
    let refused : Bool := decide (3000 < d ∨ d < -3000 ∨ (d < 0 ∧ 3000 < c.hold - d))
    let trimmed (t : State) : Prop :=
      (refused = true → { t with bus := s.bus } = s) ∧
      (refused = false → t.time.tick = s.time.tick) ∧
      (refused = false → d ≤ c.hold →
        { t with bus := s.bus } = s.setClock { c with hold := ((c.hold : Int) - d).toNat }) ∧
      (refused = false → (c.hold : Int) < d →
        Jumped (d - c.hold).toNat (s.setClock { c with hold := 0 }) { t with bus := s.bus } ∧
        t.time.clock.ticks = (c.ticks + (d - c.hold).toNat) % 8640000 ∧ t.time.clock.hold = 0 ∧
        t.time.clock.valid = c.valid ∧ t.time.slotDue = false ∧ t.time.minuteDue = false ∧ t.config = s.config ∧
        (c.valid = true → t.time.clock.minute = c.minute →
          { t with bus := s.bus, flags := s.flags, time := s.time, ledger := s.ledger } = s ∧
          ∀ k, s.fitted k = true → (t.ledger.get k).nOp = (s.ledger.get k).nOp +
            (if s.lineState k = .offline then 0 else t.time.clock.second / 10 - c.second / 10)))
    (Reaches .clockSet f st l s →
      ∃ t, exec (.clockSet f) s = .next t ∧ trimmed t ∧
        t.bus = s.bus.answering 0x40#8 f (if refused then .badState else .accepted) (shown t.time.clock)) ∧
    (ReachesAll .clockSet f s →
      ∃ t, exec (.clockSet f) s = .next t ∧ trimmed t ∧ t.bus = s.bus.passed 0x40#8 f)) ∧
  ∀ s : State,
    (s.time.clock.hold = 1 → exec .holdEnd s = .next (s.setClock { s.time.clock with hold := 0 })) ∧
    (s.time.clock.hold ≠ 1 → exec .holdEnd s = .next s)

/-- SCHEDULE_ADD (R60) and SCHEDULE_WITHDRAW (R61), the first matching case deciding, on a schedule in order: CLOCK_INVALID,
BAD_VALUE, LATE, ACCEPTED_REPLACED, QUEUE_FULL, ACCEPTED; withdrawal of a pending block by its start or of the active
block, NOT_FOUND where there is none. Every answer carries the pending count after it; SCHEDULE_LOW follows it (R64).
The active block's withdrawal makes the mode STEAM_LED, with a recomputation when it was not (R68).
The revision count of a recomputation that sheds and leaves the record equal is log 23. -/
def Obligations.ScheduleRequests : Prop :=
  ∀ (f : Frame) (st : Station) (l : Line) (s : State), ScheduleSound s →
    let same (x y : DispatchBlock) : Bool := decide (x.day = y.day) && decide (x.start = y.start)
    let b : DispatchBlock := ⟨byteAt f.payload 0, word16 f.payload 1, word16 f.payload 3, byteAt f.payload 5,
      if word16 f.payload 6 = 65535 then none else some (word16 f.payload 6)⟩
    let good : Bool := decide (b.day ≤ 1) && decide (b.start ≤ 1439) && decide (b.exportTarget ≤ 1000) &&
      decide (1 ≤ b.rampLimit) && decide (b.rampLimit ≤ 200) &&
      decide (b.duration = none ∨ (1 ≤ word16 f.payload 6 ∧ word16 f.payload 6 ≤ 1440))
    let late : Bool := decide (b.day = 0) && decide (b.start ≤ s.presentMinute)
    let held : Bool := s.sched.queue.any (same b)
    let count (t : State) : List Byte := u8 t.sched.queue.length
    let low (t : State) : Prop := t.conditionHolds .scheduleLow =
      (s.time.clock.valid && decide (0 < s.config.plant.lowWater) &&
        decide (t.sched.queue.length < s.config.plant.lowWater)) ∧ FlagsKept (· = .scheduleLow) s t
    (Reaches .scheduleAdd f st l s →
      let refused (c : Code) : Host.Outcome State Fault Refusal :=
        .next { s with bus := s.bus.answering 0x41#8 f c (count s) }
      (s.time.clock.valid = false → exec (.scheduleAdd f) s = refused .clockInvalid) ∧
      (s.time.clock.valid = true → good = false → exec (.scheduleAdd f) s = refused .badValue) ∧
      (s.time.clock.valid = true → good = true → late = true → exec (.scheduleAdd f) s = refused .late) ∧
      (s.time.clock.valid = true → good = true → late = false → held = false → s.sched.queue.length = 24 →
        exec (.scheduleAdd f) s = refused .queueFull) ∧
      (s.time.clock.valid = true → good = true → late = false → held = true ∨ s.sched.queue.length < 24 →
        ∃ t, exec (.scheduleAdd f) s = .next t ∧
          t.bus = s.bus.answering 0x41#8 f (if held then .acceptedReplaced else .accepted) (count t) ∧
          { t with bus := s.bus, flags := s.flags, sched := s.sched } = s ∧
          t.sched = { s.sched with queue := t.sched.queue } ∧
          t.sched.queue.length = s.sched.queue.length + (if held then 0 else 1) ∧ b ∈ t.sched.queue ∧
          (∀ x ∈ s.sched.queue, same b x = false → x ∈ t.sched.queue) ∧ ScheduleSound t ∧ low t)) ∧
    (Reaches .scheduleWithdraw f st l s →
      let refused : Host.Outcome State Fault Refusal :=
        .next { s with bus := s.bus.answering 0x42#8 f .notFound (count s) }
      (byteAt f.payload 0 ≠ 255 → held = false → exec (.scheduleWithdraw f) s = refused) ∧
      (byteAt f.payload 0 ≠ 255 → held = true →
        ∃ t, exec (.scheduleWithdraw f) s = .next t ∧ t.bus = s.bus.answering 0x42#8 f .accepted (count t) ∧
          { t with bus := s.bus, flags := s.flags, sched := s.sched } = s ∧
          t.sched = { s.sched with queue := s.sched.queue.filter (fun x => !same b x) } ∧ low t) ∧
      (byteAt f.payload 0 = 255 → s.sched.active = none → exec (.scheduleWithdraw f) s = refused) ∧
      (byteAt f.payload 0 = 255 → s.sched.active.isSome = true →
        ∃ t, exec (.scheduleWithdraw f) s = .next t ∧ t.bus = s.bus.answering 0x42#8 f .accepted (count s) ∧
          t.sched.queue = s.sched.queue ∧ t.sched.active = none ∧ t.sched.mode = .steamLed ∧
          t.sched.turbine = s.sched.turbine ∧ t.sched.handed = s.sched.handed ∧ PlantOnly s t ∧
          FlagsKept allocFlags s t ∧
          (s.sched.mode = .powerLed →
            Recomputed s.connectedSet { s with sched := { s.sched with mode := .steamLed, ceiling := s.ceilingNow } } t ∧
            t.sched.ramped = invLookup s.config.plant t.alloc.record.target)))

/-- The division of steam and the shedding of a recomputation, whatever lines `conn` are CONNECTED (R33 to R38). In POWER_LED
every line has its minimum in the surplus case and its effective maximum in the limit case; in the share case the whole
of the need is assigned, each line between those bounds, at its proportional part or one unit above it, the units going to
the largest remainders, in letter order among equals. In STEAM_LED the lines run at their clamped nominal steam. The
record is the division of the lines left after shedding: the shed lines come last in the shedding order, each was shed
with the bypass still above its maximum, and none is shed without need. -/
def Obligations.SteamDivision : Prop :=
  ∀ (s : State) (conn : PerLine Bool),
    let d := s.divide conn
    let total (x : Line → Nat) : Nat := x .a + x .b + x .c
    let emax (l : Line) : Nat :=
      max (s.lineConfig l).sMin ((s.lineConfig l).sMax * (s.monitor.get l).throttle / 1000)
    let low (l : Line) : Nat := if conn.get l then (s.lineConfig l).sMin else 0
    let high (l : Line) : Nat := if conn.get l then emax l else 0
    let nominal (l : Line) : Nat :=
      if conn.get l then max (s.lineConfig l).sMin (min (s.lineConfig l).sNom (emax l)) else 0
    let aux := s.alloc.aux
    (s.sched.mode = .powerLed →
      let demand := min (charLookup s.config.plant s.sched.ramped) s.sched.ceiling
      let need := demand + aux
      (need ≤ total low → (∀ l, d.assigned.get l = low l) ∧ d.target = demand ∧ d.served = aux ∧
        d.bypass = total low - need ∧ d.shortfall = false) ∧
      (total low < need → total high ≤ need → (∀ l, d.assigned.get l = high l) ∧ d.served = min aux (total high) ∧
        d.target = min demand (total high - d.served) ∧ d.bypass = 0 ∧ d.shortfall = decide (total high < need)) ∧
      (total low < need → need < total high →
        let e := need - total low
        let h := total high - total low
        let part (l : Line) : Nat := low l + e * (high l - low l) / h
        let rem (l : Line) : Nat := e * (high l - low l) % h
        d.target = demand ∧ d.served = aux ∧ d.bypass = 0 ∧ d.shortfall = false ∧
        total d.assigned.get = need ∧
        (∀ l, low l ≤ d.assigned.get l ∧ d.assigned.get l ≤ high l ∧
          (d.assigned.get l = part l ∨ d.assigned.get l = part l + 1)) ∧
        ∀ k l, d.assigned.get k = part k + 1 → d.assigned.get l = part l →
          rem l < rem k ∨ (rem l = rem k ∧ lineNumber k < lineNumber l))) ∧
    (s.sched.mode = .steamLed → (∀ l, d.assigned.get l = nominal l) ∧ d.served = min aux (total nominal) ∧
      d.target = min (total nominal - d.served) s.sched.ceiling ∧
      d.bypass = total nominal - d.served - d.target ∧ d.shortfall = decide (d.served < aux)) ∧
    (s.config.plant.shedOrder.Nodup → (∀ l, l ∈ s.config.plant.shedOrder) →
      let place (l : Line) : Nat := s.config.plant.shedOrder.idxOf l
      let o := s.outcome conn
      let upTo (l k : Line) : Bool := conn.get k && decide (place k ≤ place l)
      o.1 = s.divide o.2 ∧ o.1.bypass ≤ s.config.plant.bypassMax ∧
      (d.bypass ≤ s.config.plant.bypassMax → o.2 = conn) ∧
      (∀ l, o.2.get l = true → conn.get l = true) ∧
      ∀ l, conn.get l = true → o.2.get l = false →
        s.config.plant.bypassMax < (s.divide ⟨upTo l .a, upTo l .b, upTo l .c⟩).bypass ∧
        ∀ k, o.2.get k = true → place k < place l)

/-- AUX_SET (R42): the demand clamped to aux_max is held, and every accepted request runs one recomputation, on the answer's
served steam and revision count; afterwards the assignments and the target that moved by deadband or more since last
flagged are flagged (R44, R45), BYPASS_ACTIVE and SHORTFALL follow the record (R46), and E_r follows the target, in STEAM_LED
as its power, in POWER_LED pulled back to it from a demand it fell short of (`ExportFollows`, R72).
The revision count of a recomputation that sheds and leaves the record equal is log 23. -/
def Obligations.AuxSet : Prop :=
  ∀ (f : Frame) (st : Station) (l : Line) (s : State), Reaches .auxSet f st l s →
    let most := s.config.plant.auxMax
    let value := word16 f.payload 0
    let s' : State := { s with alloc := { s.alloc with aux := min value most } }
    let dist (x y : Nat) : Nat := (x - y) + (y - x)
    ∃ t, exec (.auxSet f) s = .next t ∧
      t.bus = s.bus.answering 0x44#8 f (if most < value then .acceptedClamped else .accepted)
        (u16 (min value most) ++ u16 t.alloc.record.served ++ u16 t.alloc.record.revision.toNat) ∧
      t.alloc.aux = min value most ∧ Recomputed s.connectedSet s' t ∧
      ExportFollows s t ∧
      (∀ k, s.fitted k = true →
        (s.config.plant.deadband ≤ dist (t.alloc.record.assigned.get k) (s.alloc.flagged.get k) →
          t.alloc.flagged.get k = t.alloc.record.assigned.get k ∧ t.flagSet (.assignmentChanged k) = true) ∧
        (dist (t.alloc.record.assigned.get k) (s.alloc.flagged.get k) < s.config.plant.deadband →
          t.alloc.flagged.get k = s.alloc.flagged.get k ∧
          t.flagSet (.assignmentChanged k) = s.flagSet (.assignmentChanged k))) ∧
      (s.config.plant.deadband ≤ dist t.alloc.record.target s.alloc.flaggedTarget →
        t.alloc.flaggedTarget = t.alloc.record.target ∧ t.flagSet .targetChanged = true) ∧
      (dist t.alloc.record.target s.alloc.flaggedTarget < s.config.plant.deadband →
        t.alloc.flaggedTarget = s.alloc.flaggedTarget ∧ t.flagSet .targetChanged = s.flagSet .targetChanged) ∧
      t.conditionHolds .bypassActive = decide (0 < t.alloc.record.bypass) ∧
      t.conditionHolds .shortfall = t.alloc.record.shortfall ∧ PlantOnly s t ∧ FlagsKept allocFlags s t

/-- CONFIG_WRITE (R172, R173). An instance that group, line and member do not name is refused BAD_VALUE with 0 echoed. The
pairs are checked in order: an unknown or repeated number or a value out of range is BAD_VALUE, a parameter its class
does not let be written now BAD_STATE, either with its number echoed; then the constraints on the values as they would
stand, BAD_VALUE with the number of the earliest pair that takes part in one that fails (which numbers take part: log 14).
A refused write moves nothing. Otherwise every pair is applied and no other parameter, the instance is marked written,
CONFIG_INCOMPLETE follows (R4), and the owners act, in an order left open (log 2), each in words of its own:
`PlantWritten` (R23, R43, R48, R64, R67, R70, R74), `LineWritten` (R26, R27, R30, R87, R89, R92, R139, R152), `GeneratorWritten`
(R93, R116), `DosingWritten` (R163); a LEDGER write moves nothing more. Each says what else stands. What a PLANT write does is stated where the connect queue and
slot agree with the line states (`ConnectSound`, which RegistryStaysSound keeps), and all of it where the characteristic
table has its eight points (4.6), which it keeps. The model's own here: the own ranges of s_nom and period_max (log 21),
that a lowered floor caps the throttle of an OPEN episode at once (log 20), the fed-forward rate written in OFFLINE and
TRIPPED (log 15), that o_ref moves no sum and no sample stored (log 19), that dev_minutes moves STEAM_DEVIATION at minute
events alone (log 17), and the demand handed as a field of its own (log 10).
The revision count of a recomputation that sheds and leaves the record equal is log 23. -/
def Obligations.ConfigWrite : Prop :=
  ∀ (f : Frame) (st : Station) (l : Line) (s : State), Reaches .configWrite f st l s →
    s.config.plant.charP.length = 8 → s.config.plant.charS.length = 8 →
    let b (i : Nat) : Nat := byteAt f.payload i
    let pairs : List (Nat × Int) :=
      (List.range ((f.payload.length - 3) / 4)).map (fun i => (b (3 + 4 * i), int24 f.payload (4 + 4 * i)))
    let refused (c : Code) (n : Nat) : Host.Outcome State Fault Refusal :=
      .next { s with bus := s.bus.answering 0x45#8 f c (u8 n) }
    (placeOf (b 0) (b 1) (b 2) = none → exec (.configWrite f) s = refused .badValue 0) ∧
    ∀ pl, placeOf (b 0) (b 1) (b 2) = some pl →
      let inRange (x : Nat × Int) : Bool := (pl.param? x.1).any (fun p => p.admits pl x.2)
      let allowed (x : Nat × Int) : Bool := (pl.param? x.1).any (fun p => p.cls.permits pl s)
      let fresh (i : Nat) (x : Nat × Int) : Bool := !((pairs.take i).map Prod.fst).contains x.1
      let good (i : Nat) (x : Nat × Int) : Bool := inRange x && fresh i x && allowed x
      let after := s.config.withPairs pl pairs
      let constraints := pl.constraints after (budgetFor pl s)
      (∀ i : Fin 10, ∀ x, pairs[i.val]? = some x → (∀ j : Fin 10, ∀ y, pairs[j.val]? = some y → j.val < i.val → good j.val y = true) →
        (inRange x = false ∨ fresh i.val x = false → exec (.configWrite f) s = refused .badValue x.1) ∧
        (inRange x = true → fresh i.val x = true → allowed x = false →
          exec (.configWrite f) s = refused .badState x.1)) ∧
      ((∀ i : Fin 10, ∀ x, pairs[i.val]? = some x → good i.val x = true) →
        ((pl.constraints s.config (budgetFor pl s)).all (fun c => c.holds) = true →
          constraints.all (fun c => c.holds) = false →
          ∃ x, pairs.find? (fun y => constraints.any (fun c => !c.holds && c.numbers.contains y.1)) = some x ∧
            exec (.configWrite f) s = refused .badValue x.1) ∧
        (constraints.all (fun c => c.holds) = true →
          ∃ t, exec (.configWrite f) s = .next t ∧
            t.bus = s.bus.answering 0x45#8 f .accepted (f.payload.take 3 ++ u8 pairs.length) ∧
            t.config = after.markWritten pl ∧ t.config.written pl = true ∧
            t.config.plant.charP.length = 8 ∧ t.config.plant.charS.length = 8 ∧
            (∀ x ∈ pairs, t.config.value pl x.1 = x.2) ∧
            (∀ n : Fin 32, n.val ∉ pairs.map Prod.fst → t.config.value pl n.val = s.config.value pl n.val) ∧
            t.conditionHolds .configIncomplete = t.fittedLines.any (fun k => !t.configured k) ∧
            (let ns := pairs.map Prod.fst
            (pl = .plant → ConnectSound s → PlantWritten ns s t) ∧ (∀ k, pl = .line k → LineWritten k ns s t) ∧
            (∀ k g, pl = .generator k g → GeneratorWritten k g ns s t) ∧
            (∀ k p, pl = .ledger k p → { t with bus := s.bus, flags := s.flags, config := s.config } = s ∧
              FlagsKept (· = .configIncomplete) s t) ∧
            ∀ k c, pl = .dosing k c → DosingWritten k c ns s t)))

/-- CONFIG_READ (R174): the written mark and whether higher numbers remain, then up to ten parameters of the instance from the
number asked on, in ascending order, each with its value in force as a signed number of three bytes. Nothing moves. -/
def Obligations.ConfigRead : Prop :=
  ∀ (f : Frame) (st : Station) (l : Line) (s : State), Reaches .configRead f st l s →
    let b (i : Nat) : Nat := byteAt f.payload i
    (placeOf (b 0) (b 1) (b 2) = none →
      exec (.configRead f) s = .next { s with bus := s.bus.answering 0x46#8 f .badValue [] }) ∧
    ∀ pl, placeOf (b 0) (b 1) (b 2) = some pl →
      let ps := pl.params.filter (fun p => decide (b 3 ≤ p.number))
      ∃ t, exec (.configRead f) s = .next t ∧ t.bus = s.bus.answering 0x46#8 f .accepted t.payload ∧
        { t with bus := s.bus } = s ∧ t.payload.length = 1 + 4 * min 10 ps.length ∧
        bitAt (byteAt t.payload 0) 0 = s.config.written pl ∧ bitAt (byteAt t.payload 0) 1 = decide (10 < ps.length) ∧
        ∀ i : Fin 10, ∀ p, ps[i.val]? = some p → byteAt t.payload (1 + 4 * i.val) = p.number ∧
          (-8388608 ≤ s.config.value pl p.number → s.config.value pl p.number < 8388608 →
            int24 t.payload (2 + 4 * i.val) = s.config.value pl p.number)

/-- BUDGET_LOAD (R149), the first matching case deciding: BAD_VALUE for a lockout code or a budget out of range, BAD_STATE
with the line not OFFLINE, BAD_VALUE above the allowance; otherwise budget used and lockout take the values carried and
the budget is loaded, the LOCKOUT condition and CONFIG_INCOMPLETE following. LOCKOUT_CLEAR (R150) clears lockout of an
OFFLINE line and its condition, and is refused BAD_STATE in any other state. Nothing else moves. -/
def Obligations.Budgets : Prop :=
  ∀ (f : Frame) (st : Station) (l : Line) (s : State),
    let m := s.monitor.get l
    let used := word16 f.payload 0
    let code := byteAt f.payload 2
    let shown (r : ComplianceRecord) : List Byte :=
      u16 r.budgetUsed ++ u16 (s.lineConfig l).allowance ++ u8 (if r.lockout then 1 else 0) ++
        u8 (if r.budgetLoaded then 1 else 0)
    let short (r : ComplianceRecord) : List Byte := u8 (if r.lockout then 1 else 0) ++ u16 r.budgetUsed
    let refused (c : Code) : Host.Outcome State Fault Refusal :=
      .next { s with bus := s.bus.answering 0x47#8 f c (shown m) }
    (Reaches .budgetLoad f st l s →
      (1 < code ∨ 400 < used → exec (.budgetLoad f) s = refused .badValue) ∧
      (code ≤ 1 → used ≤ 400 → s.lineState l ≠ .offline → exec (.budgetLoad f) s = refused .badState) ∧
      (code ≤ 1 → used ≤ 400 → s.lineState l = .offline → (s.lineConfig l).allowance < used →
        exec (.budgetLoad f) s = refused .badValue) ∧
      (code ≤ 1 → used ≤ 400 → s.lineState l = .offline → used ≤ (s.lineConfig l).allowance →
        let m' : ComplianceRecord := { m with
          budgetUsed := used, lockout := decide (code = 1), budgetLoaded := true }
        ∃ t, exec (.budgetLoad f) s = .next t ∧ t.bus = s.bus.answering 0x47#8 f .accepted (shown m') ∧
          { s.setMonitor l m' with bus := t.bus, flags := t.flags } = t ∧
          t.conditionHolds (.lockout l) = decide (code = 1) ∧ (code = 1 → t.flagSet (.lockout l) = true) ∧
          t.conditionHolds .configIncomplete = t.fittedLines.any (fun k => !t.configured k) ∧
          FlagsKept (fun x => x = .lockout l ∨ x = .configIncomplete) s t)) ∧
    (Reaches .lockoutClear f st l s →
      (s.lineState l ≠ .offline →
        exec (.lockoutClear f) s = .next { s with bus := s.bus.answering 0x48#8 f .badState (short m) }) ∧
      (s.lineState l = .offline →
        let m' : ComplianceRecord := { m with lockout := false }
        ∃ t, exec (.lockoutClear f) s = .next t ∧ t.bus = s.bus.answering 0x48#8 f .accepted (short m') ∧
          { s.setMonitor l m' with bus := t.bus, flags := t.flags } = t ∧
          t.conditionHolds (.lockout l) = false ∧ FlagsKept (fun _ => False) s t))

/-! ### The stations' own flags -/

/-- FLAGS_READ (R178), from any station and on its own set: the set is copied, every event flag and every condition flag whose
condition no longer holds is cleared, and the rest stay set; the answer carries the set as copied and as it then stands,
the mask, the mode and the polarity, and the notify line follows. A flag set first is in the copy; one set after the read
stands for the next. A lost answer leaves the clearing as it is. -/
def Obligations.FlagsRead : Prop :=
  ∀ (f : Frame) (st : Station) (l : Line) (s : State), Reaches .flagsRead f st l s → FlagSound s →
    ∃ t, exec (.flagsRead f) s = .next t ∧
      let u := s.flags.get st
      let v := t.flags.get st
      t.bus = s.bus.answering 0x50#8 f .accepted
          (u16 u.flags.toNat ++ u16 v.flags.toNat ++ u16 u.mask.toNat ++ u8 u.mode.code ++ u8 u.polarity.code) ∧
        { s.setFlagUnit st v with bus := t.bus } = t ∧ { v with flags := u.flags } = u ∧
        (∀ x : Sys2Proof.Machine.Flag, x.station = st →
          (x.isCondition = false → t.flagSet x = false) ∧
          (x.isCondition = true → t.flagSet x = (s.flagSet x && s.conditionHolds x)) ∧
          ((setFlag x t).flagSet x = true)) ∧
        (v.mode = .level → t.notifyHigh st =
          (decide (v.flags &&& ~~~ v.mask = 0#16) == decide (v.polarity = .activeLow))) ∧
        (v.mode = .pulse → t.notifyHigh st = s.notifyHigh st) ∧
        ∀ readBack t', exec (.answerCollision readBack) t = .next t' → t'.flags = t.flags

/-- MASK_WRITE (R179), from any station: its own mask is replaced whole, the positions its catalogue does not use reading
masked; the flag set stands. A LEVEL line follows the new mask at once; a PULSE line neither starts nor ends a pulse, and
a flag reaches it at its next setting from clear, under the mask that then stands. -/
def Obligations.MaskWrite : Prop :=
  ∀ (f : Frame) (st : Station) (l : Line) (s : State), Reaches .maskWrite f st l s →
    ∃ t, exec (.maskWrite f) s = .next t ∧
      let u := s.flags.get st
      let v := t.flags.get st
      t.bus = s.bus.answering 0x51#8 f .accepted (u16 v.mask.toNat ++ u16 u.flags.toNat) ∧
        { s.setFlagUnit st v with bus := t.bus } = t ∧ { v with mask := u.mask } = u ∧
        (∀ n : Fin 16, v.mask.getLsbD n.val =
          (bitAt (word16 f.payload 0) n.val || !(catalogue st).getLsbD n.val)) ∧
        (v.mode = .level → t.notifyHigh st =
          (decide (v.flags &&& ~~~ v.mask = 0#16) == decide (v.polarity = .activeLow))) ∧
        (v.mode = .pulse → t.notifyHigh st = s.notifyHigh st ∧
          ∀ x : Sys2Proof.Machine.Flag, x.station = st → ((setFlag x t).flags.get st).pulseLeft =
            (if t.flagSet x = false ∧ v.mask.getLsbD x.pos = false then 1000 else u.pulseLeft))

/-- NOTIFY_MODE (R180), from any station: a mode or polarity code outside the two of each is refused BAD_VALUE and changes
nothing; otherwise both are replaced together, a pulse in flight ends, and the line is driven under the new polarity: in
LEVEL asserted when an unmasked flag is set, in PULSE released. -/
def Obligations.NotifyMode : Prop :=
  ∀ (f : Frame) (st : Station) (l : Line) (s : State), Reaches .notifyMode f st l s →
    let u := s.flags.get st
    let m := byteAt f.payload 0
    let p := byteAt f.payload 1
    (1 < m ∨ 1 < p → exec (.notifyMode f) s = .next { s with
      bus := s.bus.answering 0x52#8 f .badValue (u8 u.mode.code ++ u8 u.polarity.code ++ u16 u.flags.toNat) }) ∧
    (m ≤ 1 → p ≤ 1 →
      ∃ t, exec (.notifyMode f) s = .next t ∧
        t.bus = s.bus.answering 0x52#8 f .accepted (u8 m ++ u8 p ++ u16 u.flags.toNat) ∧
        { s.setFlagUnit st { u with
          mode := if m = 0 then .level else .pulse
          polarity := if p = 0 then .activeLow else .activeHigh
          pulseLeft := 0 } with bus := t.bus } = t ∧
        (m = 0 → t.notifyHigh st = (decide (u.flags &&& ~~~ u.mask = 0#16) == decide (p = 0))) ∧
        (m = 1 → t.notifyHigh st = decide (p = 0)))

/-- The notify lines (R181, R182). Setting a flag that is clear and unmasked starts or restarts the 1 ms of a PULSE line and
asserts it; a flag set already, a masked one and the end of a condition make no pulse. A LEVEL line is asserted exactly
while a flag of the set is set and unmasked. NOTIFY_PULSE_END releases a PULSE line and leaves a LEVEL line and every
flag as they stand. -/
def Obligations.NotifyLines : Prop :=
  ∀ (s : State) (x : Sys2Proof.Machine.Flag), s.pins.resetLow = false → FlagSound s →
    let st := x.station
    let u := s.flags.get st
    let released : Bool := decide (u.polarity = .activeLow)
    let t := setFlag x s
    (u.mode = .pulse → s.flagSet x = false → u.mask.getLsbD x.pos = false →
      (t.flags.get st).pulseLeft = 1000 ∧ t.notifyHigh st = !released) ∧
    (u.mode = .pulse → s.flagSet x = true ∨ u.mask.getLsbD x.pos = true → t.notifyHigh st = s.notifyHigh st) ∧
    ((setCondition x false s).notifyHigh st = s.notifyHigh st) ∧
    (u.mode = .level → (s.notifyHigh st = !released ↔ ∃ n : Fin 16, u.flags.getLsbD n.val = true ∧
      u.mask.getLsbD n.val = false)) ∧
    ∃ r, exec (.notifyPulseEnd st) s = .next r ∧ r = s.setFlagUnit st { u with pulseLeft := 0 } ∧
      (u.mode = .pulse → r.notifyHigh st = released) ∧ (u.mode = .level → r.notifyHigh st = s.notifyHigh st)

/-! ### The closes and the minute event -/

/-- SLOT_CLOSE off a block boundary (R121), for every fitted line in its state as the close is taken: OFFLINE drops the stored
sample; any other counts an operating slot, adds each valid concentration to its channel's sum and count, and with an
empty store sets SAMPLE_MISSING; the store is emptied. Nothing else moves, and nothing at all before the boundary (the
model's choice, log 4). -/
def Obligations.SlotClose : Prop :=
  ∀ s : State,
    (s.time.slotDue = false → exec .slotClose s = .next s) ∧
    (s.time.slotDue = true → s.time.clock.second ≠ 0 ∨ s.time.clock.minute % 10 ≠ 0 →
      ∃ t, exec .slotClose s = .next t ∧
        { t with ledger := s.ledger, flags := s.flags, time := s.time } = s ∧
        t.time = { s.time with slotDue := false } ∧ FlagsKept (· = .sampleMissing) s t ∧
        (t.flagSet .sampleMissing = true ↔ s.flagSet .sampleMissing = true ∨
          ∃ l, s.fitted l = true ∧ s.lineState l ≠ .offline ∧ (s.ledger.get l).store = none) ∧
        ∀ l, (s.fitted l = false → t.ledger.get l = s.ledger.get l) ∧
          (s.fitted l = true → s.lineState l = .offline →
            t.ledger.get l = { s.ledger.get l with store := none }) ∧
          (s.fitted l = true → s.lineState l ≠ .offline →
            (t.ledger.get l).store = none ∧ (t.ledger.get l).nOp = (s.ledger.get l).nOp + 1 ∧
            ∀ p,
              let ch := (s.ledger.get l).channels.get p
              let value := (s.ledger.get l).store.bind (fun x => x.values.get p)
              (t.ledger.get l).channels.get p = { ch with
                sum := ch.sum + value.getD 0, count := ch.count + (if value.isSome then 1 else 0) }))

/-- SLOT_CLOSE on a block boundary inside a half hour (R57, R123, R124), for every fitted line: the block's entry takes its
result, IDLE below 6 operating slots, VALID with three quarters of them measured, else INVALID, and the running block
restarts; the pulse counts are handed and restart (R56); the mass ring shifts (R87) and an operating line's heat value
takes its estimate (R88); the last block doses are weighed (R160) and the trims of an operating line take the law (R159);
its throttle takes the throttle law and the cap (R138, R139). -/
def Obligations.BlockClose : Prop :=
  ∀ s : State, s.time.slotDue = true → s.time.clock.second = 0 → s.time.clock.minute % 10 = 0 →
    s.time.clock.minute % 30 ≠ 0 →
    ∃ t, exec .slotClose s = .next t ∧ t.bus = s.bus ∧ t.config = s.config ∧ t.pins = s.pins ∧
      t.time = { s.time with slotDue := false } ∧ t.registry.header = s.registry.header ∧
      t.sched.queue = s.sched.queue ∧ t.sched.active = s.sched.active ∧
      BlockCountsRestarted s t ∧
      ∀ l, s.fitted l = true →
        let up : Nat := if s.lineState l = .offline then 0 else 1
        let r := s.ledger.get l
        let n := r.nOp + up
        let value (p : Pollutant) : Option Nat :=
          if s.lineState l = .offline then none else r.store.bind (fun x => x.values.get p)
        let sum (p : Pollutant) : Nat := (r.channels.get p).sum + (value p).getD 0
        let count (p : Pollutant) : Nat := (r.channels.get p).count + (if (value p).isSome then 1 else 0)
        let result (p : Pollutant) : BlockStatus :=
          if n < 6 then .idle else if 3 * n ≤ 4 * count p then .valid (sum p / count p) else .invalid
        (t.ledger.get l).nOp = 0 ∧ (t.ledger.get l).store = none ∧
        (∀ p,
          let ch := r.channels.get p
          let e : BlockEntry := ⟨result p, n, count p⟩
          (t.ledger.get l).channels.get p = { ch with
            sum := 0
            count := 0
            block0 := if s.time.clock.minute % 30 = 10 then e else ch.block0
            block1 := if s.time.clock.minute % 30 = 20 then e else ch.block1 }) ∧
        EstimateTaken l s t ∧ TrimsTaken l result s t ∧
        (s.lineState l = .offline → t.monitor.get l = s.monitor.get l) ∧
        (s.lineState l ≠ .offline →
          t.monitor.get l = { s.monitor.get l with throttle := s.lawfulThrottle l result })


/-- MINUTE_EVENT (R56): every minute count restarts, and the three recipients take the event in some order (log 2), each as
its own sentence says. The registry (`RegistryTook`): the measured steam of a sensing line, floor(n q 60 / 100) up to 65535
(R19), the deviation count and STEAM_DEVIATION (R20). The allocator (`AllocatorTook`): the release test (R40) and one
recomputation (R30). The scheduler (`SchedulerTook`): the blocks that are due leave the queue, the latest becoming active
with BLOCK_TAKEN set and SCHEDULE_LOW decided (R64), else the active block loses a minute and ends with its last (R63); the
mode (R68); the ramp step of E_r and the demand handed (R71). Nothing moves before the boundary (the model's choice,
log 4).
The revision count of a recomputation that sheds and leaves the record equal is log 23. -/
def Obligations.MinuteEvent : Prop :=
  ∀ s : State,
    (s.time.minuteDue = false → exec .minuteEvent s = .next s) ∧
    (s.time.minuteDue = true →
      let cleared (c : SteamCounter) : SteamCounter := { c with minuteCount := 0 }
      let n (l : Line) : Nat := (s.counters.get l).minuteCount
      let minute := s.time.clock.minute
      let queue := if minute = 0 then s.sched.queue.map (fun b => if b.day = 1 then { b with day := 0 } else b)
        else s.sched.queue
      let due (b : DispatchBlock) : Bool := decide (b.day = 0) && decide (b.start ≤ minute)
      ∃ t u x y ties k, ∃ a b c : MinuteTask,
        exec .minuteEvent s = .next t ∧
        u = { s with
          time := { s.time with minuteDue := false }
          counters := ⟨cleared s.counters.a, cleared s.counters.b, cleared s.counters.c⟩
          ties := ties
          tieCount := k } ∧
        List.Perm [a, b, c] [.registry, .allocator, .scheduler] ∧
        MinuteTook n a u x ∧ MinuteTook n b x y ∧ MinuteTook n c y t ∧
        t.time = { s.time with minuteDue := false } ∧ t.bus = s.bus ∧ t.config = s.config ∧ t.ledger = s.ledger ∧
        t.monitor = s.monitor ∧ t.pins = s.pins ∧ t.registry.header = s.registry.header ∧
        t.registry.queue = s.registry.queue ∧ t.registry.slot = s.registry.slot ∧ t.counters = u.counters ∧
        (∀ l, (t.line l).measured = (if s.fitted l ∧ (s.counters.get l).sensing then
            min 65535 (n l * (s.lineConfig l).steamPulseQ * 60 / 100) else (s.line l).measured)) ∧
        t.sched.queue = queue.filter (fun b => !due b) ∧
        (∀ b, (queue.filter due).getLast? = some b →
          t.sched.active = some ⟨b, b.duration⟩ ∧ t.flagSet .blockTaken = true) ∧
        (queue.filter due = [] → t.flagSet .blockTaken = s.flagSet .blockTaken ∧
          (s.sched.active = none → t.sched.active = none) ∧
          ∀ a, s.sched.active = some a →
            (a.remaining = none → t.sched.active = some a) ∧
            (∀ n, a.remaining = some n →
              t.sched.active = (if n ≤ 1 then none else some ⟨a.block, some (n - 1)⟩))) ∧
        t.sched.mode = (if t.sched.active.isSome = true ∧ s.sched.turbine.effective = .onGrid then .powerLed
          else .steamLed))

/-- SLOT_CLOSE on a half hour, from a sound registry (R57, R126, R127, R128, R142 to R146, R131). The period of every channel of
a fitted line is closed on its three block results, with the exceeded mark under its limit and the episode mark after the
evaluation, and its entry heads the history, the newest 48 kept. Before it the block closes: the pulse counts restart (R56),
the mass ring shifts and an operating line takes its estimate, trims, last block doses and throttle law (R87, R88, R138,
R159, R160), the cap of an episode OPEN after the evaluation following. For every line not OFFLINE the episode is
evaluated: opened with EPISODE_OPENED, lengthened, or closed, or the period is QUIET; a period that ends OPEN counts
against the budget up to the allowance; and a line that has reached its episode limit or spent its budget stands in no feeding state and not in HOLD: forced into BURNOUT
with lockout and FORCED_BURNOUT. The day accumulator takes the period (R127); at minute 0 the day closes as well, on the
accumulator with that period: the last-day record with its mean and exceeded mark, DAY_CLOSED, and DAY_EXCEEDED where a day
was exceeded (R131), and the history holding the entry of the half hour 1410 and those that were TODAY, all marked YESTERDAY
(R128, R133). After the close the entries of the block record are OPEN, with n_op 0 and v 0 (log 16). -/
def Obligations.PeriodClose : Prop :=
  ∀ s : State, RegistrySound s → s.time.slotDue = true → s.time.clock.second = 0 → s.time.clock.minute % 30 = 0 →
    s.time.clock.minute < 1440 →
    ∃ t, exec .slotClose s = .next t ∧ t.time = { s.time with slotDue := false } ∧ t.config = s.config ∧
      (s.time.clock.minute = 0 → t.flagSet .dayClosed = true ∧
        (t.flagSet .dayExceeded = true ↔ s.flagSet .dayExceeded = true ∨
          ∃ l p, s.fitted l = true ∧
            ∃ d, ((t.ledger.get l).channels.get p).lastDay = some d ∧ d.exceeded = true)) ∧
      (s.time.clock.minute ≠ 0 → t.flagSet .dayClosed = s.flagSet .dayClosed ∧
        t.flagSet .dayExceeded = s.flagSet .dayExceeded) ∧
      BlockCountsRestarted s t ∧
      ∀ l, s.fitted l = true →
        let m := s.monitor.get l
        let m' := t.monitor.get l
        let cfg := s.lineConfig l
        let r := s.ledger.get l
        let up : Nat := if s.lineState l = .offline then 0 else 1
        let n := r.nOp + up
        let value (p : Pollutant) : Option Nat :=
          if s.lineState l = .offline then none else r.store.bind (fun x => x.values.get p)
        let sum (p : Pollutant) : Nat := (r.channels.get p).sum + (value p).getD 0
        let count (p : Pollutant) : Nat := (r.channels.get p).count + (if (value p).isSome then 1 else 0)
        let result (p : Pollutant) : BlockStatus :=
          if n < 6 then .idle else if 3 * n ≤ 4 * count p then .valid (sum p / count p) else .invalid
        let statuses (p : Pollutant) : List BlockStatus :=
          [(r.channels.get p).block0.status, (r.channels.get p).block1.status, result p]
        let means (p : Pollutant) : List Nat := (statuses p).filterMap (fun x => match x with
          | .valid y => some y
          | _ => none)
        let status (p : Pollutant) : MeanStatus :=
          if (statuses p).all (fun x => decide (x = .idle)) then .idle
          else if 2 ≤ (means p).length then .valid ((means p).sum / (means p).length) else .invalid
        let exceeded (p : Pollutant) : Bool := match status p with
          | .valid x => decide ((s.ledgerConfig l p).periodLimit < x)
          | _ => false
        let day (p : Pollutant) : DayAcc :=
          let d := (r.channels.get p).day
          match status p with
          | .valid x => { d with sum := d.sum + x, valid := d.valid + 1 }
          | .invalid => { d with invalid := d.invalid + 1 }
          | .idle => { d with idle := d.idle + 1 }
        let dayStatus (p : Pollutant) : MeanStatus :=
          if (day p).valid = 0 ∧ (day p).invalid = 0 then .idle
          else if 1 ≤ (day p).valid ∧ (day p).invalid ≤ (s.ledgerConfig l p).gapAllowance then
            .valid ((day p).sum / (day p).valid)
          else .invalid
        let dayOver (p : Pollutant) : Bool := match dayStatus p with
          | .valid x => decide ((s.ledgerConfig l p).dayLimit < x)
          | _ => false
        (∀ p,
          let ch := (t.ledger.get l).channels.get p
          ch.sum = 0 ∧ ch.count = 0 ∧ ch.block0 = ⟨.opened, 0, 0⟩ ∧ ch.block1 = ⟨.opened, 0, 0⟩ ∧ ch.block2 = ⟨.opened, 0, 0⟩ ∧
            (s.time.clock.minute ≠ 0 → ch.day = day p ∧ ch.lastDay = (r.channels.get p).lastDay ∧
              ch.history = (⟨s.time.clock.minute - 30, false, status p, (means p).length, exceeded p,
                decide (s.lineState l ≠ .offline) && m'.episodeOpen⟩ :: (r.channels.get p).history).take 48) ∧
            (s.time.clock.minute = 0 → ch.day = ⟨0, 0, 0, 0, 0⟩ ∧
              ch.lastDay = some ⟨dayStatus p, dayOver p, (day p).valid, (day p).invalid, (day p).idle, (day p).start⟩ ∧
              ch.history =
                ⟨1410, true, status p, (means p).length, exceeded p,
                  decide (s.lineState l ≠ .offline) && m'.episodeOpen⟩ ::
                ((r.channels.get p).history.take 47).filterMap
                  (fun e => if e.yesterday then none else some { e with yesterday := true }))) ∧
        (t.ledger.get l).nOp = 0 ∧ (t.ledger.get l).store = none ∧
        EstimateTaken l s t ∧ TrimsTaken l result s t ∧
        (s.lineState l = .offline → m' = { m with evaluation := .quiet }) ∧
        (s.lineState l ≠ .offline →
          m'.throttle = (let law := s.lawfulThrottle l result
            if m'.episodeOpen then max cfg.throttleFloor (min law cfg.episodeThrottle) else law) ∧
          (m.episodeOpen = false → (m'.episodeOpen = true ↔ ∃ p, exceeded p = true)) ∧
          (m.episodeOpen = false → m'.episodeOpen = false →
            m'.length = m.length ∧ m'.compliant = m.compliant ∧ m'.evaluation = .quiet) ∧
          (m.episodeOpen = false → m'.episodeOpen = true →
            m'.length = 1 ∧ m'.compliant = 0 ∧ m'.evaluation = .opened ∧ t.flagSet .episodeOpened = true) ∧
          (m.episodeOpen = true → (∃ p, exceeded p = true ∨ status p = .invalid) →
            m'.episodeOpen = true ∧ m'.length = min 65535 (m.length + 1) ∧ m'.compliant = 0 ∧
            m'.evaluation = .lengthened) ∧
          (m.episodeOpen = true → (∀ p, exceeded p = false ∧ status p ≠ .invalid) → (∃ p, status p ≠ .idle) →
            (m.compliant = 0 → m'.episodeOpen = true ∧ m'.length = min 65535 (m.length + 1) ∧ m'.compliant = 1 ∧
              m'.evaluation = .compliant) ∧
            (1 ≤ m.compliant → m'.episodeOpen = false ∧ m'.length = 0 ∧ m'.compliant = 0 ∧
              m'.evaluation = .closedNow)) ∧
          m'.budgetUsed = (if m'.episodeOpen then min cfg.allowance (m.budgetUsed + 1) else m.budgetUsed) ∧
          (m'.episodeOpen = true → m'.throttle ≤ max cfg.throttleFloor cfg.episodeThrottle) ∧
          ((m'.episodeOpen = true ∧ cfg.episodeLimit ≤ m'.length) ∨ m'.budgetUsed = cfg.allowance →
            (t.lineState l = .burnout ∨ t.lineState l = .tripped) ∧
            (s.lineState l ≠ .burnout → s.lineState l ≠ .tripped →
              t.lineState l = .burnout ∧ m'.lockout = true ∧ t.flagSet .forcedBurnout = true ∧
              t.flagSet (.stateChanged l) = true)))

/-! ### What every step keeps -/

/-- Every step keeps the allocation record in balance, the target below the ceiling and the bypass below its maximum (R29,
R38). -/
def Obligations.AllocationStaysSound : Prop :=
  ∀ s t : State, AllocationSound s → step s = .next t → AllocationSound t

/-- Every step keeps the connect queue, the connect slot, the hold records and the shed set in agreement with the line states
(R2, R6, R21, R39), and a locked-out line in BURNOUT, OFFLINE or TRIPPED (R148). -/
def Obligations.RegistryStaysSound : Prop :=
  ∀ s t : State, RegistrySound s ∧ LockoutSound s → step s = .next t → RegistrySound t ∧ LockoutSound t

/-- Every step keeps every throttle between its floor and 1000 and every budget within its allowance (R139, R144), and every
dosing rate within its rate_max and at 0 where the line does not dose (R154). -/
def Obligations.LevelsStaySound : Prop :=
  ∀ s t : State, MonitorSound s ∧ DoseSound s → step s = .next t → MonitorSound t ∧ DoseSound t

/-- Every step keeps permission with source AUTO and a line state that gives it (R95), every period within its limits, every
countdown within 1 and Pmax + 1 and every trim accumulator within 0 to 63 (R100), a generator in FAULT at REST with nothing
waiting (R109), and a stroke waiting only where the generator runs with one in flight (R97, R101). -/
def Obligations.GeneratorsStaySound : Prop :=
  ∀ s t : State, PermissionSound s ∧ PeriodSound s ∧ FaultSound s ∧ PendingSound s → step s = .next t →
    PermissionSound t ∧ PeriodSound t ∧ FaultSound t ∧ PendingSound t

/-- Every step keeps the ledger's sums, counts and histories in their ranges (R117, R128), the current mass equal to the
strokes of the block times the stroke charge (R87), every answer and snapshot within 48 bytes (R170), and a part held in
reset at its reset values (R177; that no command but RESET_RELEASE moves it then is log 4, the values of what the release
gives log 5). -/
def Obligations.RecordsStaySound : Prop :=
  ∀ s t : State, LedgerSound s ∧ FeedMassSound s ∧ AnswerSound s ∧ ResetHeld s → step s = .next t →
    LedgerSound t ∧ FeedMassSound t ∧ AnswerSound t ∧ ResetHeld t

/-- Every step keeps the clock showing a time of day with a hold of at most 3000 ticks (R50, R53), and the schedule queue at most 24
blocks, strictly ascending, each in its ranges and later than the present, and empty while the clock is invalid (R59). The
present is the minute before while the minute event of the minute reached is due and not yet taken (log 4). -/
def Obligations.TimeStaysSound : Prop :=
  ∀ s t : State, ClockSound s ∧ ScheduleSound s → step s = .next t → ClockSound t ∧ ScheduleSound t

/-- Every step keeps the flag sets within their catalogues with every holding condition's flag set, and the conditions holding
exactly while what the catalogue names for them is so (R176, 11.4). STEAM_DEVIATION is left out: it is decided at minute
events alone (log 17), and MinuteEvent states it. A part held in reset stays at its reset values (logs 4 and 5). -/
def Obligations.FlagsStaySound : Prop :=
  ∀ s t : State, FlagSound s ∧ ConditionSound s ∧ ResetHeld s → step s = .next t →
    FlagSound t ∧ ConditionSound t ∧ ResetHeld t

/-- No feeder stroke starts outside a feeding state (R95, R112), be it that the output is at REST or that a stroke in flight
ends with one waiting, since none waits there (R97, R101, R107): where a step finds a line in OFFLINE, HOLD, BURNOUT or
TRIPPED and leaves it in one of them, a FEED output ACTIVE after it is the stroke in flight before it, whatever the
command: the output was ACTIVE, active-since stands, and no stroke ended. -/
def Obligations.NoFeedOutsideFeeding : Prop :=
  ∀ (s t : State) (l : Line), PermissionSound s → PendingSound s → step s = .next t → (s.lineState l).feeding = false →
    (t.lineState l).feeding = false →
    let g := s.gen l .feed
    let g' := t.gen l .feed
    g'.pending = false ∧
      (g'.phase = .active → g.phase = .active ∧ g'.activeSince = g.activeSince ∧ g'.completed = g.completed ∧
        g'.aborted = g.aborted ∧ g'.early = g.early ∧ g'.late = g.late)
end

