-- ==== Sys2Proof/Laws/State.lean ====
section
/-! SUPPORT. What each update of the state leaves in each field, and reads after writes of the small tables. -/

namespace Sys2Proof.Machine

@[simp] theorem PerLine.get_set_self {α : Type} (t : PerLine α) (k : Line) (x : α) : (t.set k x).get k = x := by
  cases k <;> rfl

theorem PerLine.get_set_other {α : Type} (t : PerLine α) {j k : Line} (x : α) (h : j ≠ k) :
    (t.set k x).get j = t.get j := by
  cases j <;> cases k <;> first | rfl | exact absurd rfl h

theorem PerLine.ext_get {α : Type} {t u : PerLine α} (h : ∀ k, t.get k = u.get k) : t = u := by
  cases t; cases u
  simp only [PerLine.mk.injEq]
  exact ⟨h .a, h .b, h .c⟩

@[simp] theorem PerGen.get_set_self {α : Type} (t : PerGen α) (k : Gen) (x : α) : (t.set k x).get k = x := by
  cases k <;> rfl

theorem PerGen.get_set_other {α : Type} (t : PerGen α) {j k : Gen} (x : α) (h : j ≠ k) :
    (t.set k x).get j = t.get j := by
  cases j <;> cases k <;> first | rfl | exact absurd rfl h

theorem PerGen.ext_get {α : Type} {t u : PerGen α} (h : ∀ k, t.get k = u.get k) : t = u := by
  cases t; cases u
  simp only [PerGen.mk.injEq]
  exact ⟨h .feed, h .z1, h .z2, h .z3, h .nox, h .acid⟩

@[simp] theorem PerStroke.get_set_self {α : Type} (t : PerStroke α) (k : StrokeGen) (x : α) : (t.set k x).get k = x := by
  cases k <;> rfl

theorem PerStroke.get_set_other {α : Type} (t : PerStroke α) {j k : StrokeGen} (x : α) (h : j ≠ k) :
    (t.set k x).get j = t.get j := by
  cases j <;> cases k <;> first | rfl | exact absurd rfl h

theorem PerStroke.ext_get {α : Type} {t u : PerStroke α} (h : ∀ k, t.get k = u.get k) : t = u := by
  cases t; cases u
  simp only [PerStroke.mk.injEq]
  exact ⟨h .feed, h .z1, h .z2, h .z3⟩

@[simp] theorem PerChannel.get_set_self {α : Type} (t : PerChannel α) (k : Channel) (x : α) : (t.set k x).get k = x := by
  cases k <;> rfl

theorem PerChannel.get_set_other {α : Type} (t : PerChannel α) {j k : Channel} (x : α) (h : j ≠ k) :
    (t.set k x).get j = t.get j := by
  cases j <;> cases k <;> first | rfl | exact absurd rfl h

theorem PerChannel.ext_get {α : Type} {t u : PerChannel α} (h : ∀ k, t.get k = u.get k) : t = u := by
  cases t; cases u
  simp only [PerChannel.mk.injEq]
  exact ⟨h .nox, h .acid⟩

@[simp] theorem PerPollutant.get_set_self {α : Type} (t : PerPollutant α) (k : Pollutant) (x : α) : (t.set k x).get k = x := by
  cases k <;> rfl

theorem PerPollutant.get_set_other {α : Type} (t : PerPollutant α) {j k : Pollutant} (x : α) (h : j ≠ k) :
    (t.set k x).get j = t.get j := by
  cases j <;> cases k <;> first | rfl | exact absurd rfl h

theorem PerPollutant.ext_get {α : Type} {t u : PerPollutant α} (h : ∀ k, t.get k = u.get k) : t = u := by
  cases t; cases u
  simp only [PerPollutant.mk.injEq]
  exact ⟨h .co, h .nox, h .so2, h .hcl, h .dust, h .toc⟩

@[simp] theorem PerPollutant.get_make {α : Type} (f : Pollutant → α) (p : Pollutant) :
    (PerPollutant.make f).get p = f p := by
  cases p <;> rfl

@[simp] theorem PerStation.get_set_self {α : Type} (t : PerStation α) (st : Station) (x : α) :
    (t.set st x).get st = x := by
  cases st with
  | lineCtl l => cases l <;> rfl
  | turbine => rfl
  | cleaning => rfl
  | supervisory => rfl

theorem PerStation.get_set_other {α : Type} (t : PerStation α) {j k : Station} (x : α) (h : j ≠ k) :
    (t.set k x).get j = t.get j := by
  cases j with
  | lineCtl x => cases k with
    | lineCtl y => exact PerLine.get_set_other _ _ (fun e => h (e ▸ rfl))
    | turbine => rfl
    | cleaning => rfl
    | supervisory => rfl
  | turbine => cases k <;> first | rfl | exact absurd rfl h
  | cleaning => cases k <;> first | rfl | exact absurd rfl h
  | supervisory => cases k <;> first | rfl | exact absurd rfl h

namespace State

@[simp] theorem setLine_pending (s : State) (l : Line) (r : LineRecord) :
    (s.setLine l r).pending = s.pending := rfl
@[simp] theorem setLine_bus (s : State) (l : Line) (r : LineRecord) : (s.setLine l r).bus = s.bus := rfl
@[simp] theorem setLine_config (s : State) (l : Line) (r : LineRecord) : (s.setLine l r).config = s.config := rfl
@[simp] theorem setLine_time (s : State) (l : Line) (r : LineRecord) : (s.setLine l r).time = s.time := rfl
@[simp] theorem setLine_registry (s : State) (l : Line) (r : LineRecord) :
    (s.setLine l r).registry = { s.registry with lines := s.registry.lines.set l r } := rfl
@[simp] theorem setLine_alloc (s : State) (l : Line) (r : LineRecord) : (s.setLine l r).alloc = s.alloc := rfl
@[simp] theorem setLine_sched (s : State) (l : Line) (r : LineRecord) : (s.setLine l r).sched = s.sched := rfl
@[simp] theorem setLine_feed (s : State) (l : Line) (r : LineRecord) : (s.setLine l r).feed = s.feed := rfl
@[simp] theorem setLine_gens (s : State) (l : Line) (r : LineRecord) : (s.setLine l r).gens = s.gens := rfl
@[simp] theorem setLine_counters (s : State) (l : Line) (r : LineRecord) :
    (s.setLine l r).counters = s.counters := rfl
@[simp] theorem setLine_ledger (s : State) (l : Line) (r : LineRecord) : (s.setLine l r).ledger = s.ledger := rfl
@[simp] theorem setLine_monitor (s : State) (l : Line) (r : LineRecord) :
    (s.setLine l r).monitor = s.monitor := rfl
@[simp] theorem setLine_dosing (s : State) (l : Line) (r : LineRecord) : (s.setLine l r).dosing = s.dosing := rfl
@[simp] theorem setLine_flags (s : State) (l : Line) (r : LineRecord) : (s.setLine l r).flags = s.flags := rfl
@[simp] theorem setLine_pins (s : State) (l : Line) (r : LineRecord) : (s.setLine l r).pins = s.pins := rfl
@[simp] theorem setLine_ties (s : State) (l : Line) (r : LineRecord) : (s.setLine l r).ties = s.ties := rfl
@[simp] theorem setLine_tieCount (s : State) (l : Line) (r : LineRecord) :
    (s.setLine l r).tieCount = s.tieCount := rfl
@[simp] theorem setLine_freeCount (s : State) (l : Line) (r : LineRecord) :
    (s.setLine l r).freeCount = s.freeCount := rfl

@[simp] theorem setGens_pending (s : State) (l : Line) (r : PerGen GenRecord) :
    (s.setGens l r).pending = s.pending := rfl
@[simp] theorem setGens_bus (s : State) (l : Line) (r : PerGen GenRecord) : (s.setGens l r).bus = s.bus := rfl
@[simp] theorem setGens_config (s : State) (l : Line) (r : PerGen GenRecord) :
    (s.setGens l r).config = s.config := rfl
@[simp] theorem setGens_time (s : State) (l : Line) (r : PerGen GenRecord) : (s.setGens l r).time = s.time := rfl
@[simp] theorem setGens_registry (s : State) (l : Line) (r : PerGen GenRecord) :
    (s.setGens l r).registry = s.registry := rfl
@[simp] theorem setGens_alloc (s : State) (l : Line) (r : PerGen GenRecord) :
    (s.setGens l r).alloc = s.alloc := rfl
@[simp] theorem setGens_sched (s : State) (l : Line) (r : PerGen GenRecord) :
    (s.setGens l r).sched = s.sched := rfl
@[simp] theorem setGens_feed (s : State) (l : Line) (r : PerGen GenRecord) : (s.setGens l r).feed = s.feed := rfl
@[simp] theorem setGens_gens (s : State) (l : Line) (r : PerGen GenRecord) :
    (s.setGens l r).gens = s.gens.set l r := rfl
@[simp] theorem setGens_counters (s : State) (l : Line) (r : PerGen GenRecord) :
    (s.setGens l r).counters = s.counters := rfl
@[simp] theorem setGens_ledger (s : State) (l : Line) (r : PerGen GenRecord) :
    (s.setGens l r).ledger = s.ledger := rfl
@[simp] theorem setGens_monitor (s : State) (l : Line) (r : PerGen GenRecord) :
    (s.setGens l r).monitor = s.monitor := rfl
@[simp] theorem setGens_dosing (s : State) (l : Line) (r : PerGen GenRecord) :
    (s.setGens l r).dosing = s.dosing := rfl
@[simp] theorem setGens_flags (s : State) (l : Line) (r : PerGen GenRecord) :
    (s.setGens l r).flags = s.flags := rfl
@[simp] theorem setGens_pins (s : State) (l : Line) (r : PerGen GenRecord) : (s.setGens l r).pins = s.pins := rfl
@[simp] theorem setGens_ties (s : State) (l : Line) (r : PerGen GenRecord) : (s.setGens l r).ties = s.ties := rfl
@[simp] theorem setGens_tieCount (s : State) (l : Line) (r : PerGen GenRecord) :
    (s.setGens l r).tieCount = s.tieCount := rfl
@[simp] theorem setGens_freeCount (s : State) (l : Line) (r : PerGen GenRecord) :
    (s.setGens l r).freeCount = s.freeCount := rfl

@[simp] theorem setGen_pending (s : State) (l : Line) (k : Gen) (r : GenRecord) :
    (s.setGen l k r).pending = s.pending := rfl
@[simp] theorem setGen_bus (s : State) (l : Line) (k : Gen) (r : GenRecord) : (s.setGen l k r).bus = s.bus := rfl
@[simp] theorem setGen_config (s : State) (l : Line) (k : Gen) (r : GenRecord) :
    (s.setGen l k r).config = s.config := rfl
@[simp] theorem setGen_time (s : State) (l : Line) (k : Gen) (r : GenRecord) :
    (s.setGen l k r).time = s.time := rfl
@[simp] theorem setGen_registry (s : State) (l : Line) (k : Gen) (r : GenRecord) :
    (s.setGen l k r).registry = s.registry := rfl
@[simp] theorem setGen_alloc (s : State) (l : Line) (k : Gen) (r : GenRecord) :
    (s.setGen l k r).alloc = s.alloc := rfl
@[simp] theorem setGen_sched (s : State) (l : Line) (k : Gen) (r : GenRecord) :
    (s.setGen l k r).sched = s.sched := rfl
@[simp] theorem setGen_feed (s : State) (l : Line) (k : Gen) (r : GenRecord) :
    (s.setGen l k r).feed = s.feed := rfl
@[simp] theorem setGen_gens (s : State) (l : Line) (k : Gen) (r : GenRecord) :
    (s.setGen l k r).gens = s.gens.set l ((s.gens.get l).set k r) := rfl
@[simp] theorem setGen_counters (s : State) (l : Line) (k : Gen) (r : GenRecord) :
    (s.setGen l k r).counters = s.counters := rfl
@[simp] theorem setGen_ledger (s : State) (l : Line) (k : Gen) (r : GenRecord) :
    (s.setGen l k r).ledger = s.ledger := rfl
@[simp] theorem setGen_monitor (s : State) (l : Line) (k : Gen) (r : GenRecord) :
    (s.setGen l k r).monitor = s.monitor := rfl
@[simp] theorem setGen_dosing (s : State) (l : Line) (k : Gen) (r : GenRecord) :
    (s.setGen l k r).dosing = s.dosing := rfl
@[simp] theorem setGen_flags (s : State) (l : Line) (k : Gen) (r : GenRecord) :
    (s.setGen l k r).flags = s.flags := rfl
@[simp] theorem setGen_pins (s : State) (l : Line) (k : Gen) (r : GenRecord) :
    (s.setGen l k r).pins = s.pins := rfl
@[simp] theorem setGen_ties (s : State) (l : Line) (k : Gen) (r : GenRecord) :
    (s.setGen l k r).ties = s.ties := rfl
@[simp] theorem setGen_tieCount (s : State) (l : Line) (k : Gen) (r : GenRecord) :
    (s.setGen l k r).tieCount = s.tieCount := rfl
@[simp] theorem setGen_freeCount (s : State) (l : Line) (k : Gen) (r : GenRecord) :
    (s.setGen l k r).freeCount = s.freeCount := rfl

@[simp] theorem setFeed_pending (s : State) (l : Line) (r : FeedRecord) :
    (s.setFeed l r).pending = s.pending := rfl
@[simp] theorem setFeed_bus (s : State) (l : Line) (r : FeedRecord) : (s.setFeed l r).bus = s.bus := rfl
@[simp] theorem setFeed_config (s : State) (l : Line) (r : FeedRecord) : (s.setFeed l r).config = s.config := rfl
@[simp] theorem setFeed_time (s : State) (l : Line) (r : FeedRecord) : (s.setFeed l r).time = s.time := rfl
@[simp] theorem setFeed_registry (s : State) (l : Line) (r : FeedRecord) :
    (s.setFeed l r).registry = s.registry := rfl
@[simp] theorem setFeed_alloc (s : State) (l : Line) (r : FeedRecord) : (s.setFeed l r).alloc = s.alloc := rfl
@[simp] theorem setFeed_sched (s : State) (l : Line) (r : FeedRecord) : (s.setFeed l r).sched = s.sched := rfl
@[simp] theorem setFeed_feed (s : State) (l : Line) (r : FeedRecord) : (s.setFeed l r).feed = s.feed.set l r := rfl
@[simp] theorem setFeed_gens (s : State) (l : Line) (r : FeedRecord) : (s.setFeed l r).gens = s.gens := rfl
@[simp] theorem setFeed_counters (s : State) (l : Line) (r : FeedRecord) :
    (s.setFeed l r).counters = s.counters := rfl
@[simp] theorem setFeed_ledger (s : State) (l : Line) (r : FeedRecord) : (s.setFeed l r).ledger = s.ledger := rfl
@[simp] theorem setFeed_monitor (s : State) (l : Line) (r : FeedRecord) :
    (s.setFeed l r).monitor = s.monitor := rfl
@[simp] theorem setFeed_dosing (s : State) (l : Line) (r : FeedRecord) : (s.setFeed l r).dosing = s.dosing := rfl
@[simp] theorem setFeed_flags (s : State) (l : Line) (r : FeedRecord) : (s.setFeed l r).flags = s.flags := rfl
@[simp] theorem setFeed_pins (s : State) (l : Line) (r : FeedRecord) : (s.setFeed l r).pins = s.pins := rfl
@[simp] theorem setFeed_ties (s : State) (l : Line) (r : FeedRecord) : (s.setFeed l r).ties = s.ties := rfl
@[simp] theorem setFeed_tieCount (s : State) (l : Line) (r : FeedRecord) :
    (s.setFeed l r).tieCount = s.tieCount := rfl
@[simp] theorem setFeed_freeCount (s : State) (l : Line) (r : FeedRecord) :
    (s.setFeed l r).freeCount = s.freeCount := rfl

@[simp] theorem setDose_pending (s : State) (l : Line) (c : Channel) (r : DosingRecord) :
    (s.setDose l c r).pending = s.pending := rfl
@[simp] theorem setDose_bus (s : State) (l : Line) (c : Channel) (r : DosingRecord) :
    (s.setDose l c r).bus = s.bus := rfl
@[simp] theorem setDose_config (s : State) (l : Line) (c : Channel) (r : DosingRecord) :
    (s.setDose l c r).config = s.config := rfl
@[simp] theorem setDose_time (s : State) (l : Line) (c : Channel) (r : DosingRecord) :
    (s.setDose l c r).time = s.time := rfl
@[simp] theorem setDose_registry (s : State) (l : Line) (c : Channel) (r : DosingRecord) :
    (s.setDose l c r).registry = s.registry := rfl
@[simp] theorem setDose_alloc (s : State) (l : Line) (c : Channel) (r : DosingRecord) :
    (s.setDose l c r).alloc = s.alloc := rfl
@[simp] theorem setDose_sched (s : State) (l : Line) (c : Channel) (r : DosingRecord) :
    (s.setDose l c r).sched = s.sched := rfl
@[simp] theorem setDose_feed (s : State) (l : Line) (c : Channel) (r : DosingRecord) :
    (s.setDose l c r).feed = s.feed := rfl
@[simp] theorem setDose_gens (s : State) (l : Line) (c : Channel) (r : DosingRecord) :
    (s.setDose l c r).gens = s.gens := rfl
@[simp] theorem setDose_counters (s : State) (l : Line) (c : Channel) (r : DosingRecord) :
    (s.setDose l c r).counters = s.counters := rfl
@[simp] theorem setDose_ledger (s : State) (l : Line) (c : Channel) (r : DosingRecord) :
    (s.setDose l c r).ledger = s.ledger := rfl
@[simp] theorem setDose_monitor (s : State) (l : Line) (c : Channel) (r : DosingRecord) :
    (s.setDose l c r).monitor = s.monitor := rfl
@[simp] theorem setDose_dosing (s : State) (l : Line) (c : Channel) (r : DosingRecord) :
    (s.setDose l c r).dosing = s.dosing.set l ((s.dosing.get l).set c r) := rfl
@[simp] theorem setDose_flags (s : State) (l : Line) (c : Channel) (r : DosingRecord) :
    (s.setDose l c r).flags = s.flags := rfl
@[simp] theorem setDose_pins (s : State) (l : Line) (c : Channel) (r : DosingRecord) :
    (s.setDose l c r).pins = s.pins := rfl
@[simp] theorem setDose_ties (s : State) (l : Line) (c : Channel) (r : DosingRecord) :
    (s.setDose l c r).ties = s.ties := rfl
@[simp] theorem setDose_tieCount (s : State) (l : Line) (c : Channel) (r : DosingRecord) :
    (s.setDose l c r).tieCount = s.tieCount := rfl
@[simp] theorem setDose_freeCount (s : State) (l : Line) (c : Channel) (r : DosingRecord) :
    (s.setDose l c r).freeCount = s.freeCount := rfl

@[simp] theorem setMonitor_pending (s : State) (l : Line) (r : ComplianceRecord) :
    (s.setMonitor l r).pending = s.pending := rfl
@[simp] theorem setMonitor_bus (s : State) (l : Line) (r : ComplianceRecord) :
    (s.setMonitor l r).bus = s.bus := rfl
@[simp] theorem setMonitor_config (s : State) (l : Line) (r : ComplianceRecord) :
    (s.setMonitor l r).config = s.config := rfl
@[simp] theorem setMonitor_time (s : State) (l : Line) (r : ComplianceRecord) :
    (s.setMonitor l r).time = s.time := rfl
@[simp] theorem setMonitor_registry (s : State) (l : Line) (r : ComplianceRecord) :
    (s.setMonitor l r).registry = s.registry := rfl
@[simp] theorem setMonitor_alloc (s : State) (l : Line) (r : ComplianceRecord) :
    (s.setMonitor l r).alloc = s.alloc := rfl
@[simp] theorem setMonitor_sched (s : State) (l : Line) (r : ComplianceRecord) :
    (s.setMonitor l r).sched = s.sched := rfl
@[simp] theorem setMonitor_feed (s : State) (l : Line) (r : ComplianceRecord) :
    (s.setMonitor l r).feed = s.feed := rfl
@[simp] theorem setMonitor_gens (s : State) (l : Line) (r : ComplianceRecord) :
    (s.setMonitor l r).gens = s.gens := rfl
@[simp] theorem setMonitor_counters (s : State) (l : Line) (r : ComplianceRecord) :
    (s.setMonitor l r).counters = s.counters := rfl
@[simp] theorem setMonitor_ledger (s : State) (l : Line) (r : ComplianceRecord) :
    (s.setMonitor l r).ledger = s.ledger := rfl
@[simp] theorem setMonitor_monitor (s : State) (l : Line) (r : ComplianceRecord) :
    (s.setMonitor l r).monitor = s.monitor.set l r := rfl
@[simp] theorem setMonitor_dosing (s : State) (l : Line) (r : ComplianceRecord) :
    (s.setMonitor l r).dosing = s.dosing := rfl
@[simp] theorem setMonitor_flags (s : State) (l : Line) (r : ComplianceRecord) :
    (s.setMonitor l r).flags = s.flags := rfl
@[simp] theorem setMonitor_pins (s : State) (l : Line) (r : ComplianceRecord) :
    (s.setMonitor l r).pins = s.pins := rfl
@[simp] theorem setMonitor_ties (s : State) (l : Line) (r : ComplianceRecord) :
    (s.setMonitor l r).ties = s.ties := rfl
@[simp] theorem setMonitor_tieCount (s : State) (l : Line) (r : ComplianceRecord) :
    (s.setMonitor l r).tieCount = s.tieCount := rfl
@[simp] theorem setMonitor_freeCount (s : State) (l : Line) (r : ComplianceRecord) :
    (s.setMonitor l r).freeCount = s.freeCount := rfl

@[simp] theorem setLedger_pending (s : State) (l : Line) (r : LedgerLine) :
    (s.setLedger l r).pending = s.pending := rfl
@[simp] theorem setLedger_bus (s : State) (l : Line) (r : LedgerLine) : (s.setLedger l r).bus = s.bus := rfl
@[simp] theorem setLedger_config (s : State) (l : Line) (r : LedgerLine) :
    (s.setLedger l r).config = s.config := rfl
@[simp] theorem setLedger_time (s : State) (l : Line) (r : LedgerLine) : (s.setLedger l r).time = s.time := rfl
@[simp] theorem setLedger_registry (s : State) (l : Line) (r : LedgerLine) :
    (s.setLedger l r).registry = s.registry := rfl
@[simp] theorem setLedger_alloc (s : State) (l : Line) (r : LedgerLine) : (s.setLedger l r).alloc = s.alloc := rfl
@[simp] theorem setLedger_sched (s : State) (l : Line) (r : LedgerLine) : (s.setLedger l r).sched = s.sched := rfl
@[simp] theorem setLedger_feed (s : State) (l : Line) (r : LedgerLine) : (s.setLedger l r).feed = s.feed := rfl
@[simp] theorem setLedger_gens (s : State) (l : Line) (r : LedgerLine) : (s.setLedger l r).gens = s.gens := rfl
@[simp] theorem setLedger_counters (s : State) (l : Line) (r : LedgerLine) :
    (s.setLedger l r).counters = s.counters := rfl
@[simp] theorem setLedger_ledger (s : State) (l : Line) (r : LedgerLine) :
    (s.setLedger l r).ledger = s.ledger.set l r := rfl
@[simp] theorem setLedger_monitor (s : State) (l : Line) (r : LedgerLine) :
    (s.setLedger l r).monitor = s.monitor := rfl
@[simp] theorem setLedger_dosing (s : State) (l : Line) (r : LedgerLine) :
    (s.setLedger l r).dosing = s.dosing := rfl
@[simp] theorem setLedger_flags (s : State) (l : Line) (r : LedgerLine) : (s.setLedger l r).flags = s.flags := rfl
@[simp] theorem setLedger_pins (s : State) (l : Line) (r : LedgerLine) : (s.setLedger l r).pins = s.pins := rfl
@[simp] theorem setLedger_ties (s : State) (l : Line) (r : LedgerLine) : (s.setLedger l r).ties = s.ties := rfl
@[simp] theorem setLedger_tieCount (s : State) (l : Line) (r : LedgerLine) :
    (s.setLedger l r).tieCount = s.tieCount := rfl
@[simp] theorem setLedger_freeCount (s : State) (l : Line) (r : LedgerLine) :
    (s.setLedger l r).freeCount = s.freeCount := rfl

@[simp] theorem setCounter_pending (s : State) (l : Line) (r : SteamCounter) :
    (s.setCounter l r).pending = s.pending := rfl
@[simp] theorem setCounter_bus (s : State) (l : Line) (r : SteamCounter) : (s.setCounter l r).bus = s.bus := rfl
@[simp] theorem setCounter_config (s : State) (l : Line) (r : SteamCounter) :
    (s.setCounter l r).config = s.config := rfl
@[simp] theorem setCounter_time (s : State) (l : Line) (r : SteamCounter) : (s.setCounter l r).time = s.time := rfl
@[simp] theorem setCounter_registry (s : State) (l : Line) (r : SteamCounter) :
    (s.setCounter l r).registry = s.registry := rfl
@[simp] theorem setCounter_alloc (s : State) (l : Line) (r : SteamCounter) :
    (s.setCounter l r).alloc = s.alloc := rfl
@[simp] theorem setCounter_sched (s : State) (l : Line) (r : SteamCounter) :
    (s.setCounter l r).sched = s.sched := rfl
@[simp] theorem setCounter_feed (s : State) (l : Line) (r : SteamCounter) : (s.setCounter l r).feed = s.feed := rfl
@[simp] theorem setCounter_gens (s : State) (l : Line) (r : SteamCounter) : (s.setCounter l r).gens = s.gens := rfl
@[simp] theorem setCounter_counters (s : State) (l : Line) (r : SteamCounter) :
    (s.setCounter l r).counters = s.counters.set l r := rfl
@[simp] theorem setCounter_ledger (s : State) (l : Line) (r : SteamCounter) :
    (s.setCounter l r).ledger = s.ledger := rfl
@[simp] theorem setCounter_monitor (s : State) (l : Line) (r : SteamCounter) :
    (s.setCounter l r).monitor = s.monitor := rfl
@[simp] theorem setCounter_dosing (s : State) (l : Line) (r : SteamCounter) :
    (s.setCounter l r).dosing = s.dosing := rfl
@[simp] theorem setCounter_flags (s : State) (l : Line) (r : SteamCounter) :
    (s.setCounter l r).flags = s.flags := rfl
@[simp] theorem setCounter_pins (s : State) (l : Line) (r : SteamCounter) : (s.setCounter l r).pins = s.pins := rfl
@[simp] theorem setCounter_ties (s : State) (l : Line) (r : SteamCounter) : (s.setCounter l r).ties = s.ties := rfl
@[simp] theorem setCounter_tieCount (s : State) (l : Line) (r : SteamCounter) :
    (s.setCounter l r).tieCount = s.tieCount := rfl
@[simp] theorem setCounter_freeCount (s : State) (l : Line) (r : SteamCounter) :
    (s.setCounter l r).freeCount = s.freeCount := rfl

@[simp] theorem setFlagUnit_pending (s : State) (st : Station) (u : FlagUnit) :
    (s.setFlagUnit st u).pending = s.pending := rfl
@[simp] theorem setFlagUnit_bus (s : State) (st : Station) (u : FlagUnit) : (s.setFlagUnit st u).bus = s.bus := rfl
@[simp] theorem setFlagUnit_config (s : State) (st : Station) (u : FlagUnit) :
    (s.setFlagUnit st u).config = s.config := rfl
@[simp] theorem setFlagUnit_time (s : State) (st : Station) (u : FlagUnit) :
    (s.setFlagUnit st u).time = s.time := rfl
@[simp] theorem setFlagUnit_registry (s : State) (st : Station) (u : FlagUnit) :
    (s.setFlagUnit st u).registry = s.registry := rfl
@[simp] theorem setFlagUnit_alloc (s : State) (st : Station) (u : FlagUnit) :
    (s.setFlagUnit st u).alloc = s.alloc := rfl
@[simp] theorem setFlagUnit_sched (s : State) (st : Station) (u : FlagUnit) :
    (s.setFlagUnit st u).sched = s.sched := rfl
@[simp] theorem setFlagUnit_feed (s : State) (st : Station) (u : FlagUnit) :
    (s.setFlagUnit st u).feed = s.feed := rfl
@[simp] theorem setFlagUnit_gens (s : State) (st : Station) (u : FlagUnit) :
    (s.setFlagUnit st u).gens = s.gens := rfl
@[simp] theorem setFlagUnit_counters (s : State) (st : Station) (u : FlagUnit) :
    (s.setFlagUnit st u).counters = s.counters := rfl
@[simp] theorem setFlagUnit_ledger (s : State) (st : Station) (u : FlagUnit) :
    (s.setFlagUnit st u).ledger = s.ledger := rfl
@[simp] theorem setFlagUnit_monitor (s : State) (st : Station) (u : FlagUnit) :
    (s.setFlagUnit st u).monitor = s.monitor := rfl
@[simp] theorem setFlagUnit_dosing (s : State) (st : Station) (u : FlagUnit) :
    (s.setFlagUnit st u).dosing = s.dosing := rfl
@[simp] theorem setFlagUnit_flags (s : State) (st : Station) (u : FlagUnit) :
    (s.setFlagUnit st u).flags = s.flags.set st u := rfl
@[simp] theorem setFlagUnit_pins (s : State) (st : Station) (u : FlagUnit) :
    (s.setFlagUnit st u).pins = s.pins := rfl
@[simp] theorem setFlagUnit_ties (s : State) (st : Station) (u : FlagUnit) :
    (s.setFlagUnit st u).ties = s.ties := rfl
@[simp] theorem setFlagUnit_tieCount (s : State) (st : Station) (u : FlagUnit) :
    (s.setFlagUnit st u).tieCount = s.tieCount := rfl
@[simp] theorem setFlagUnit_freeCount (s : State) (st : Station) (u : FlagUnit) :
    (s.setFlagUnit st u).freeCount = s.freeCount := rfl

@[simp] theorem setClock_pending (s : State) (c : Clock) : (s.setClock c).pending = s.pending := rfl
@[simp] theorem setClock_bus (s : State) (c : Clock) : (s.setClock c).bus = s.bus := rfl
@[simp] theorem setClock_config (s : State) (c : Clock) : (s.setClock c).config = s.config := rfl
@[simp] theorem setClock_time (s : State) (c : Clock) : (s.setClock c).time = { s.time with clock := c } := rfl
@[simp] theorem setClock_registry (s : State) (c : Clock) : (s.setClock c).registry = s.registry := rfl
@[simp] theorem setClock_alloc (s : State) (c : Clock) : (s.setClock c).alloc = s.alloc := rfl
@[simp] theorem setClock_sched (s : State) (c : Clock) : (s.setClock c).sched = s.sched := rfl
@[simp] theorem setClock_feed (s : State) (c : Clock) : (s.setClock c).feed = s.feed := rfl
@[simp] theorem setClock_gens (s : State) (c : Clock) : (s.setClock c).gens = s.gens := rfl
@[simp] theorem setClock_counters (s : State) (c : Clock) : (s.setClock c).counters = s.counters := rfl
@[simp] theorem setClock_ledger (s : State) (c : Clock) : (s.setClock c).ledger = s.ledger := rfl
@[simp] theorem setClock_monitor (s : State) (c : Clock) : (s.setClock c).monitor = s.monitor := rfl
@[simp] theorem setClock_dosing (s : State) (c : Clock) : (s.setClock c).dosing = s.dosing := rfl
@[simp] theorem setClock_flags (s : State) (c : Clock) : (s.setClock c).flags = s.flags := rfl
@[simp] theorem setClock_pins (s : State) (c : Clock) : (s.setClock c).pins = s.pins := rfl
@[simp] theorem setClock_ties (s : State) (c : Clock) : (s.setClock c).ties = s.ties := rfl
@[simp] theorem setClock_tieCount (s : State) (c : Clock) : (s.setClock c).tieCount = s.tieCount := rfl
@[simp] theorem setClock_freeCount (s : State) (c : Clock) : (s.setClock c).freeCount = s.freeCount := rfl

@[simp] theorem setAlloc_pending (s : State) (r : AllocRecord) : (s.setAlloc r).pending = s.pending := rfl
@[simp] theorem setAlloc_bus (s : State) (r : AllocRecord) : (s.setAlloc r).bus = s.bus := rfl
@[simp] theorem setAlloc_config (s : State) (r : AllocRecord) : (s.setAlloc r).config = s.config := rfl
@[simp] theorem setAlloc_time (s : State) (r : AllocRecord) : (s.setAlloc r).time = s.time := rfl
@[simp] theorem setAlloc_registry (s : State) (r : AllocRecord) : (s.setAlloc r).registry = s.registry := rfl
@[simp] theorem setAlloc_alloc (s : State) (r : AllocRecord) :
    (s.setAlloc r).alloc = { s.alloc with record := r } := rfl
@[simp] theorem setAlloc_sched (s : State) (r : AllocRecord) : (s.setAlloc r).sched = s.sched := rfl
@[simp] theorem setAlloc_feed (s : State) (r : AllocRecord) : (s.setAlloc r).feed = s.feed := rfl
@[simp] theorem setAlloc_gens (s : State) (r : AllocRecord) : (s.setAlloc r).gens = s.gens := rfl
@[simp] theorem setAlloc_counters (s : State) (r : AllocRecord) : (s.setAlloc r).counters = s.counters := rfl
@[simp] theorem setAlloc_ledger (s : State) (r : AllocRecord) : (s.setAlloc r).ledger = s.ledger := rfl
@[simp] theorem setAlloc_monitor (s : State) (r : AllocRecord) : (s.setAlloc r).monitor = s.monitor := rfl
@[simp] theorem setAlloc_dosing (s : State) (r : AllocRecord) : (s.setAlloc r).dosing = s.dosing := rfl
@[simp] theorem setAlloc_flags (s : State) (r : AllocRecord) : (s.setAlloc r).flags = s.flags := rfl
@[simp] theorem setAlloc_pins (s : State) (r : AllocRecord) : (s.setAlloc r).pins = s.pins := rfl
@[simp] theorem setAlloc_ties (s : State) (r : AllocRecord) : (s.setAlloc r).ties = s.ties := rfl
@[simp] theorem setAlloc_tieCount (s : State) (r : AllocRecord) : (s.setAlloc r).tieCount = s.tieCount := rfl
@[simp] theorem setAlloc_freeCount (s : State) (r : AllocRecord) : (s.setAlloc r).freeCount = s.freeCount := rfl

@[simp] theorem setBus_pending (s : State) (b : BusPort) : (s.setBus b).pending = s.pending := rfl
@[simp] theorem setBus_bus (s : State) (b : BusPort) : (s.setBus b).bus = b := rfl
@[simp] theorem setBus_config (s : State) (b : BusPort) : (s.setBus b).config = s.config := rfl
@[simp] theorem setBus_time (s : State) (b : BusPort) : (s.setBus b).time = s.time := rfl
@[simp] theorem setBus_registry (s : State) (b : BusPort) : (s.setBus b).registry = s.registry := rfl
@[simp] theorem setBus_alloc (s : State) (b : BusPort) : (s.setBus b).alloc = s.alloc := rfl
@[simp] theorem setBus_sched (s : State) (b : BusPort) : (s.setBus b).sched = s.sched := rfl
@[simp] theorem setBus_feed (s : State) (b : BusPort) : (s.setBus b).feed = s.feed := rfl
@[simp] theorem setBus_gens (s : State) (b : BusPort) : (s.setBus b).gens = s.gens := rfl
@[simp] theorem setBus_counters (s : State) (b : BusPort) : (s.setBus b).counters = s.counters := rfl
@[simp] theorem setBus_ledger (s : State) (b : BusPort) : (s.setBus b).ledger = s.ledger := rfl
@[simp] theorem setBus_monitor (s : State) (b : BusPort) : (s.setBus b).monitor = s.monitor := rfl
@[simp] theorem setBus_dosing (s : State) (b : BusPort) : (s.setBus b).dosing = s.dosing := rfl
@[simp] theorem setBus_flags (s : State) (b : BusPort) : (s.setBus b).flags = s.flags := rfl
@[simp] theorem setBus_pins (s : State) (b : BusPort) : (s.setBus b).pins = s.pins := rfl
@[simp] theorem setBus_ties (s : State) (b : BusPort) : (s.setBus b).ties = s.ties := rfl
@[simp] theorem setBus_tieCount (s : State) (b : BusPort) : (s.setBus b).tieCount = s.tieCount := rfl
@[simp] theorem setBus_freeCount (s : State) (b : BusPort) : (s.setBus b).freeCount = s.freeCount := rfl

@[simp] theorem useFreeBytes_pending (s : State) (n : Nat) : (s.useFreeBytes n).pending = s.pending := rfl
@[simp] theorem useFreeBytes_bus (s : State) (n : Nat) : (s.useFreeBytes n).bus = s.bus := rfl
@[simp] theorem useFreeBytes_config (s : State) (n : Nat) : (s.useFreeBytes n).config = s.config := rfl
@[simp] theorem useFreeBytes_time (s : State) (n : Nat) : (s.useFreeBytes n).time = s.time := rfl
@[simp] theorem useFreeBytes_registry (s : State) (n : Nat) : (s.useFreeBytes n).registry = s.registry := rfl
@[simp] theorem useFreeBytes_alloc (s : State) (n : Nat) : (s.useFreeBytes n).alloc = s.alloc := rfl
@[simp] theorem useFreeBytes_sched (s : State) (n : Nat) : (s.useFreeBytes n).sched = s.sched := rfl
@[simp] theorem useFreeBytes_feed (s : State) (n : Nat) : (s.useFreeBytes n).feed = s.feed := rfl
@[simp] theorem useFreeBytes_gens (s : State) (n : Nat) : (s.useFreeBytes n).gens = s.gens := rfl
@[simp] theorem useFreeBytes_counters (s : State) (n : Nat) : (s.useFreeBytes n).counters = s.counters := rfl
@[simp] theorem useFreeBytes_ledger (s : State) (n : Nat) : (s.useFreeBytes n).ledger = s.ledger := rfl
@[simp] theorem useFreeBytes_monitor (s : State) (n : Nat) : (s.useFreeBytes n).monitor = s.monitor := rfl
@[simp] theorem useFreeBytes_dosing (s : State) (n : Nat) : (s.useFreeBytes n).dosing = s.dosing := rfl
@[simp] theorem useFreeBytes_flags (s : State) (n : Nat) : (s.useFreeBytes n).flags = s.flags := rfl
@[simp] theorem useFreeBytes_pins (s : State) (n : Nat) : (s.useFreeBytes n).pins = s.pins := rfl
@[simp] theorem useFreeBytes_ties (s : State) (n : Nat) : (s.useFreeBytes n).ties = s.ties := rfl
@[simp] theorem useFreeBytes_tieCount (s : State) (n : Nat) : (s.useFreeBytes n).tieCount = s.tieCount := rfl
@[simp] theorem useFreeBytes_freeCount (s : State) (n : Nat) :
    (s.useFreeBytes n).freeCount = s.freeCount + n := rfl

end State

end Sys2Proof.Machine
end

