-- ==== Sys2Proof/Laws/Frames.lean ====
section
/-! SUPPORT. What each shared operation can change: one lemma per operation. A relation names the fields that may move
between two states; every other field is the same, by `rcases` on it. -/

namespace Sys2Proof.Machine

/-! ### The relations -/

/-- Only the flags moved. -/
def FlagsMoved (s t : State) : Prop := ∃ fl, t = { s with flags := fl }

/-- Only generators, dosing records and flags moved. -/
def DosesMoved (s t : State) : Prop := ∃ g d fl, t = { s with gens := g, dosing := d, flags := fl }

/-- Only feed records, generators, dosing records and flags moved. -/
def FeedMoved (s t : State) : Prop :=
  ∃ f g d fl, t = { s with feed := f, gens := g, dosing := d, flags := fl }

/-- Only the registry, the allocator, the scheduler and what a feed run moves moved. -/
def LinesMoved (s t : State) : Prop :=
  ∃ r a c f g d fl,
    t = { s with registry := r, alloc := a, sched := c, feed := f, gens := g, dosing := d, flags := fl }

/-- Only the compliance records, the open orders and what a change of line state moves moved. -/
def PlantMoved (s t : State) : Prop :=
  ∃ m i n r a c f g d fl,
    t = { s with
      monitor := m, ties := i, tieCount := n, registry := r, alloc := a, sched := c, feed := f, gens := g,
      dosing := d, flags := fl }

/-- Only time base, ledger, steam counters and what the compliance monitor moves moved. -/
def ClockMoved (s t : State) : Prop :=
  ∃ ti le co m i n r a c f g d fl,
    t = { s with
      time := ti, ledger := le, counters := co, monitor := m, ties := i, tieCount := n, registry := r,
      alloc := a, sched := c, feed := f, gens := g, dosing := d, flags := fl }

theorem FlagsMoved.doses {s t : State} : FlagsMoved s t → DosesMoved s t := by
  rintro ⟨_, rfl⟩; exact ⟨_, _, _, rfl⟩

theorem DosesMoved.feed {s t : State} : DosesMoved s t → FeedMoved s t := by
  rintro ⟨_, _, _, rfl⟩; exact ⟨_, _, _, _, rfl⟩

theorem FeedMoved.lines {s t : State} : FeedMoved s t → LinesMoved s t := by
  rintro ⟨_, _, _, _, rfl⟩; exact ⟨_, _, _, _, _, _, _, rfl⟩

theorem LinesMoved.plant {s t : State} : LinesMoved s t → PlantMoved s t := by
  rintro ⟨_, _, _, _, _, _, _, rfl⟩; exact ⟨_, _, _, _, _, _, _, _, _, _, rfl⟩

theorem PlantMoved.clock {s t : State} : PlantMoved s t → ClockMoved s t := by
  rintro ⟨_, _, _, _, _, _, _, _, _, _, rfl⟩; exact ⟨_, _, _, _, _, _, _, _, _, _, _, _, _, rfl⟩

theorem FlagsMoved.refl (s : State) : FlagsMoved s s := ⟨_, rfl⟩

theorem DosesMoved.refl (s : State) : DosesMoved s s := ⟨_, _, _, rfl⟩

theorem FeedMoved.refl (s : State) : FeedMoved s s := ⟨_, _, _, _, rfl⟩

theorem LinesMoved.refl (s : State) : LinesMoved s s := ⟨_, _, _, _, _, _, _, rfl⟩

theorem PlantMoved.refl (s : State) : PlantMoved s s := ⟨_, _, _, _, _, _, _, _, _, _, rfl⟩

theorem ClockMoved.refl (s : State) : ClockMoved s s := ⟨_, _, _, _, _, _, _, _, _, _, _, _, _, rfl⟩

theorem FlagsMoved.trans {s t u : State} : FlagsMoved s t → FlagsMoved t u → FlagsMoved s u := by
  rintro ⟨_, rfl⟩ ⟨_, rfl⟩; exact ⟨_, rfl⟩

theorem DosesMoved.trans {s t u : State} : DosesMoved s t → DosesMoved t u → DosesMoved s u := by
  rintro ⟨_, _, _, rfl⟩ ⟨_, _, _, rfl⟩; exact ⟨_, _, _, rfl⟩

theorem FeedMoved.trans {s t u : State} : FeedMoved s t → FeedMoved t u → FeedMoved s u := by
  rintro ⟨_, _, _, _, rfl⟩ ⟨_, _, _, _, rfl⟩; exact ⟨_, _, _, _, rfl⟩

theorem LinesMoved.trans {s t u : State} : LinesMoved s t → LinesMoved t u → LinesMoved s u := by
  rintro ⟨_, _, _, _, _, _, _, rfl⟩ ⟨_, _, _, _, _, _, _, rfl⟩; exact ⟨_, _, _, _, _, _, _, rfl⟩

theorem PlantMoved.trans {s t u : State} : PlantMoved s t → PlantMoved t u → PlantMoved s u := by
  rintro ⟨_, _, _, _, _, _, _, _, _, _, rfl⟩ ⟨_, _, _, _, _, _, _, _, _, _, rfl⟩
  exact ⟨_, _, _, _, _, _, _, _, _, _, rfl⟩

theorem ClockMoved.trans {s t u : State} : ClockMoved s t → ClockMoved t u → ClockMoved s u := by
  rintro ⟨_, _, _, _, _, _, _, _, _, _, _, _, _, rfl⟩ ⟨_, _, _, _, _, _, _, _, _, _, _, _, _, rfl⟩
  exact ⟨_, _, _, _, _, _, _, _, _, _, _, _, _, rfl⟩

/-! ### Operations taken for several lines, or in any order -/

/-- What holds between states before and after each single operation holds before and after all of them. -/
theorem forLines_rel {R : State → State → Prop} (refl : ∀ s, R s s)
    (trans : ∀ {s t u}, R s t → R t u → R s u) {f : Line → State → State} (h : ∀ l s, R s (f l s)) :
    ∀ (ls : List Line) (s : State), R s (forLines ls f s) := by
  intro ls
  induction ls with
  | nil => exact refl
  | cons l ls ih => exact fun s => trans (h l s) (ih (f l s))

theorem nextTie_moved (s : State) : ∃ i n, s.nextTie.2 = { s with ties := i, tieCount := n } := by
  unfold State.nextTie
  split <;> exact ⟨_, _, rfl⟩

theorem insertTie_moved {α : Type} (x : α) :
    ∀ (xs : List α) (s : State), ∃ i n, (insertTie x xs s).2 = { s with ties := i, tieCount := n } := by
  intro xs
  induction xs with
  | nil => exact fun s => ⟨_, _, rfl⟩
  | cons y ys ih =>
    intro s
    unfold insertTie
    obtain ⟨i, n, h⟩ := nextTie_moved s
    split
    · exact ⟨_, _, h⟩
    · obtain ⟨j, m, h'⟩ := ih s.nextTie.2
      exact ⟨j, m, h'.trans (by rw [h])⟩

theorem shuffle_moved {α : Type} :
    ∀ (xs : List α) (s : State), ∃ i n, (shuffle xs s).2 = { s with ties := i, tieCount := n } := by
  intro xs
  induction xs with
  | nil => exact fun s => ⟨_, _, rfl⟩
  | cons x xs ih =>
    intro s
    obtain ⟨i, n, h⟩ := ih s
    obtain ⟨j, m, h'⟩ := insertTie_moved x (shuffle xs s).1 (shuffle xs s).2
    exact ⟨j, m, h'.trans (by rw [h])⟩

theorem insertTie_perm {α : Type} (x : α) :
    ∀ (xs : List α) (s : State), (insertTie x xs s).1.Perm (x :: xs) := by
  intro xs
  induction xs with
  | nil => exact fun s => .refl _
  | cons y ys ih =>
    intro s
    unfold insertTie
    split
    · exact .refl _
    · exact ((ih s.nextTie.2).cons y).trans (.swap x y ys)

/-- A shuffled list holds the same items. -/
theorem shuffle_perm {α : Type} : ∀ (xs : List α) (s : State), (shuffle xs s).1.Perm xs := by
  intro xs
  induction xs with
  | nil => exact fun s => .refl _
  | cons x xs ih =>
    exact fun s => (insertTie_perm x (shuffle xs s).1 (shuffle xs s).2).trans ((ih s).cons x)

/-- What holds before and after each single operation, and is blind to the open orders, holds before and after all of
them in any order. -/
theorem forEachInAnyOrder_rel {α : Type} {R : State → State → Prop} (refl : ∀ s, R s s)
    (trans : ∀ {s t u}, R s t → R t u → R s u)
    (ties : ∀ (s : State) (i : List Bool) (n : Nat), R s { s with ties := i, tieCount := n })
    {f : α → State → State} (h : ∀ a s, R s (f a s)) (xs : List α) (s : State) :
    R s (forEachInAnyOrder xs f s) := by
  unfold forEachInAnyOrder
  obtain ⟨i, n, e⟩ := shuffle_moved xs s
  rw [e]
  refine trans (ties s i n) ?_
  generalize ({ s with ties := i, tieCount := n } : State) = s'
  generalize (shuffle xs s).1 = ys
  induction ys generalizing s' with
  | nil => exact refl s'
  | cons y ys ih => exact trans (h y s') (ih (f y s'))

theorem PlantMoved.orders (s : State) (i : List Bool) (n : Nat) :
    PlantMoved s { s with ties := i, tieCount := n } := ⟨_, _, _, _, _, _, _, _, _, _, rfl⟩

theorem ClockMoved.orders (s : State) (i : List Bool) (n : Nat) :
    ClockMoved s { s with ties := i, tieCount := n } := (PlantMoved.orders s i n).clock

/-! ### Flags, generators, doses and feed -/

theorem setFlag_moved (f : Flag) (s : State) : FlagsMoved s (setFlag f s) := ⟨_, rfl⟩

theorem setCondition_moved (f : Flag) (b : Bool) (s : State) : FlagsMoved s (setCondition f b s) := by
  unfold setCondition; split <;> exact ⟨_, rfl⟩

theorem handPeriod_moved (l : Line) (k : Gen) (q : Option Nat) (s : State) :
    DosesMoved s (handPeriod l k q s) := ⟨_, _, _, rfl⟩

theorem gensOnLineState_moved (l : Line) (old new : LineState) (s : State) :
    DosesMoved s (gensOnLineState l old new s) := ⟨_, _, _, rfl⟩

theorem doseCompute_moved (l : Line) (c : Channel) (s : State) : DosesMoved s (doseCompute l c s) := by
  unfold doseCompute
  split
  · exact DosesMoved.trans ⟨_, _, _, rfl⟩ (setCondition_moved _ _ _).doses
  · exact DosesMoved.trans ⟨_, _, _, rfl⟩ (setCondition_moved _ _ _).doses

theorem doseComputeBoth_moved (l : Line) (s : State) : DosesMoved s (doseComputeBoth l s) :=
  (doseCompute_moved l .nox s).trans (doseCompute_moved l .acid _)

theorem setDose_moved (l : Line) (c : Channel) (r : DosingRecord) (s : State) :
    DosesMoved s (s.setDose l c r) := ⟨_, _, _, rfl⟩

theorem trimLaw_moved (l : Line) (c : Channel) (rs : PerPollutant BlockStatus) (s : State) :
    DosesMoved s (trimLaw l c rs s) := by
  unfold trimLaw
  simp only
  split
  · exact setDose_moved _ _ _ _
  · exact (setDose_moved _ _ _ _).trans (doseCompute_moved _ _ _)

theorem dosingBlockClose_moved (l : Line) (n a : Nat) (rs : PerPollutant BlockStatus) (s : State) :
    DosesMoved s (dosingBlockClose l n a rs s) := by
  unfold dosingBlockClose
  simp only
  split
  · exact ((((setDose_moved _ _ _ _).trans (setDose_moved _ _ _ _)).trans (trimLaw_moved _ _ _ _))).trans
      (trimLaw_moved _ _ _ _)
  · exact (setDose_moved _ _ _ _).trans (setDose_moved _ _ _ _)

theorem dosingOffline_moved (l : Line) (s : State) : DosesMoved s (dosingOffline l s) :=
  ((setDose_moved _ _ _ _).trans (setDose_moved _ _ _ _)).trans (doseComputeBoth_moved _ _)

theorem handFeedPeriods_moved (l : Line) (p : PerStroke (Option Nat)) (s : State) :
    DosesMoved s (handFeedPeriods l p s) := ⟨_, _, _, rfl⟩

theorem referenceChanged_moved (l : Line) (b : Option Nat) (s : State) :
    DosesMoved s (referenceChanged l b s) := by
  unfold referenceChanged; split
  · exact .refl s
  · exact doseComputeBoth_moved l s

theorem setFeed_moved (l : Line) (r : FeedRecord) (s : State) : FeedMoved s (s.setFeed l r) :=
  ⟨_, _, _, _, rfl⟩

/-- A run moves feed records, generators, dosing records and flags, nothing else (R76). -/
theorem feedRun_moved (l : Line) (s : State) : FeedMoved s (feedRun l s) := by
  unfold feedRun
  split
  · exact .refl s
  · exact setFeed_moved _ _ _
  · exact setFeed_moved _ _ _
  · exact setFeed_moved _ _ _
  all_goals
    exact ((setFeed_moved _ _ _).trans (handFeedPeriods_moved _ _ _).feed).trans (referenceChanged_moved _ _ _).feed

theorem strokeReported_moved (l : Line) (s : State) : FeedMoved s (strokeReported l s) := setFeed_moved _ _ _

theorem estimatorBlockClose_moved (l : Line) (n : Nat) (s : State) :
    FeedMoved s (estimatorBlockClose l n s) := by
  unfold estimatorBlockClose
  simp only
  generalize (if (s.lineState l).operating = true then _ else _ : FeedRecord) = r'
  split
  · exact setFeed_moved _ _ _
  · exact (setFeed_moved _ _ _).trans (feedRun_moved _ _)

/-! ### Line states and the allocation -/

theorem setLine_moved (l : Line) (r : LineRecord) (s : State) : LinesMoved s (s.setLine l r) :=
  ⟨_, _, _, _, _, _, _, rfl⟩

theorem setHold_moved (l : Line) (r : Reasons) (x : Option ReturnState) (s : State) :
    LinesMoved s (setHold l r x s) := setLine_moved _ _ _

theorem setShed_moved (l : Line) (b : Bool) (s : State) : LinesMoved s (setShed l b s) :=
  LinesMoved.trans ⟨_, _, _, _, _, _, _, rfl⟩ (setCondition_moved _ _ _).doses.feed.lines

theorem registryState_moved (l : Line) (new : LineState) (b : Bool) (s : State) :
    LinesMoved s (registryState l new b s) := by
  unfold registryState
  simp only
  split
  · exact ((setLine_moved _ _ _).trans (setCondition_moved _ _ _).doses.feed.lines).trans
      (setFlag_moved _ _).doses.feed.lines
  · exact (setLine_moved _ _ _).trans (setCondition_moved _ _ _).doses.feed.lines

theorem changeState_moved (l : Line) (new : LineState) (b : Bool) (s : State) :
    LinesMoved s (changeState l new b s) :=
  ((registryState_moved _ _ _ _).trans (gensOnLineState_moved _ _ _ _).feed.lines).trans
    (doseComputeBoth_moved _ _).feed.lines

theorem enterPlain_moved (l : Line) (new : LineState) (b : Bool) (s : State) :
    LinesMoved s (enterPlain l new b s) :=
  (changeState_moved _ _ _ _).trans (feedRun_moved _ _).lines

theorem shedLine_moved (l : Line) (s : State) : LinesMoved s (shedLine l s) :=
  ((setHold_moved _ _ _ _).trans (setShed_moved _ _ _)).trans (enterPlain_moved _ _ _ _)

theorem targetFeedback_moved (s : State) : LinesMoved s (targetFeedback s) := by
  unfold targetFeedback
  simp only
  split
  · split
    · exact ⟨_, _, _, _, _, _, _, rfl⟩
    · exact .refl s
  · exact ⟨_, _, _, _, _, _, _, rfl⟩

theorem flagAssignment_moved (l : Line) (s : State) : LinesMoved s (flagAssignment l s) := by
  unfold flagAssignment
  simp only
  split
  · exact ⟨_, _, _, _, _, _, _, rfl⟩
  · exact .refl s

theorem flagTarget_moved (s : State) : LinesMoved s (flagTarget s) := by
  unfold flagTarget
  simp only
  split
  · exact ⟨_, _, _, _, _, _, _, rfl⟩
  · exact .refl s

theorem allocConditions_moved (s : State) : FlagsMoved s (allocConditions s) :=
  (setCondition_moved _ _ _).trans (setCondition_moved _ _ _)

theorem forLines_lines {f : Line → State → State} (h : ∀ l s, LinesMoved s (f l s)) (ls : List Line)
    (s : State) : LinesMoved s (forLines ls f s) := forLines_rel .refl .trans h ls s

theorem setAlloc_moved (r : AllocRecord) (s : State) : LinesMoved s (s.setAlloc r) :=
  ⟨_, _, _, _, _, _, _, rfl⟩

/-- A recomputation moves the registry (shedding), the allocator, the ramped export and what a feed run moves, nothing
else (R29, R30). -/
theorem recompute_moved (s : State) : LinesMoved s (recompute s) := by
  unfold recompute
  simp only
  refine LinesMoved.trans ?_ (forLines_lines (fun l s => (feedRun_moved l s).lines) _ _)
  refine LinesMoved.trans ?_ (allocConditions_moved _).doses.feed.lines
  refine LinesMoved.trans ?_ (flagTarget_moved _)
  refine LinesMoved.trans ?_ (forLines_lines flagAssignment_moved _ _)
  refine LinesMoved.trans ?_ (targetFeedback_moved _)
  exact (forLines_lines shedLine_moved _ _).trans (setAlloc_moved _ _)

theorem enter_moved (l : Line) (new : LineState) (b : Bool) (s : State) : LinesMoved s (enter l new b s) := by
  unfold enter
  simp only
  refine LinesMoved.trans (LinesMoved.trans (changeState_moved l new b s) ?_) (feedRun_moved _ _).lines
  split
  · exact recompute_moved _
  · exact .refl _

theorem grantTest_moved (s : State) : LinesMoved s (grantTest s) := by
  unfold grantTest
  split
  · exact .refl s
  · split
    · exact LinesMoved.trans ⟨_, _, _, _, _, _, _, rfl⟩ (enterPlain_moved _ _ _ _)
    · exact .refl s

theorem leaveQueue_moved (l : Line) (s : State) : LinesMoved s (leaveQueue l s) := ⟨_, _, _, _, _, _, _, rfl⟩

theorem freeSlot_moved (s : State) : LinesMoved s (freeSlot s) := ⟨_, _, _, _, _, _, _, rfl⟩

theorem undo_moved (l : Line) (s : State) : LinesMoved s (undo l s) := by
  unfold undo
  split
  · exact leaveQueue_moved _ _
  · exact freeSlot_moved _
  · exact (setHold_moved _ _ _ _).trans (setShed_moved _ _ _)
  all_goals exact .refl s

theorem grantIfFreed_moved (old : LineState) (s : State) : LinesMoved s (grantIfFreed old s) := by
  unfold grantIfFreed
  split
  · exact grantTest_moved s
  · exact .refl s

theorem leaveFor_moved (l : Line) (new : LineState) (b : Bool) (s : State) :
    LinesMoved s (leaveFor l new b s) :=
  ((undo_moved _ _).trans (enter_moved _ _ _ _)).trans (grantIfFreed_moved _ _)

theorem enterHold_moved (l : Line) (r : Reasons) (b : Bool) (s : State) :
    LinesMoved s (enterHold l r b s) :=
  (((undo_moved _ _).trans (setHold_moved _ _ _ _)).trans (enter_moved _ _ _ _)).trans (grantIfFreed_moved _ _)

theorem setReasons_moved (l : Line) (r : Reasons) (b : Bool) (s : State) :
    LinesMoved s (setReasons l r b s) := by
  unfold setReasons
  simp only
  split
  · exact (setHold_moved _ _ _ _).trans (enter_moved _ _ _ _)
  · exact setHold_moved _ _ _ _

theorem jamHold_moved (l : Line) (s : State) : LinesMoved s (jamHold l s) := by
  unfold jamHold
  split
  all_goals first
    | exact enterHold_moved _ _ _ _
    | exact setHold_moved _ _ _ _
    | exact .refl s

theorem jamCleared_moved (l : Line) (s : State) : LinesMoved s (jamCleared l s) := by
  unfold jamCleared
  split
  · exact .refl s
  · simp only
    split
    · exact (setCondition_moved _ _ _).doses.feed.lines.trans (setReasons_moved _ _ _ _)
    · exact (setCondition_moved _ _ _).doses.feed.lines

/-! ### Scheduler -/

theorem scheduleLow_moved (s : State) : FlagsMoved s (scheduleLow s) := setCondition_moved _ _ _

theorem handDemand_moved (s : State) : LinesMoved s (handDemand s) := ⟨_, _, _, _, _, _, _, rfl⟩

theorem decideAdmission_moved (s : State) : LinesMoved s (decideAdmission s) := by
  unfold decideAdmission
  simp only
  split
  · exact ⟨_, _, _, _, _, _, _, rfl⟩
  · refine LinesMoved.trans ?_ (recompute_moved _)
    split <;> exact ⟨_, _, _, _, _, _, _, rfl⟩

theorem takeover_moved (m : Nat) (s : State) : LinesMoved s (takeover m s) := by
  unfold takeover
  simp only
  split
  · exact LinesMoved.trans ⟨_, _, _, _, _, _, _, rfl⟩ (scheduleLow_moved _).doses.feed.lines
  · split
    · exact ⟨_, _, _, _, _, _, _, rfl⟩
    · exact .refl s

theorem minuteStep_moved (s : State) : LinesMoved s (minuteStep s) := by
  unfold minuteStep
  simp only
  generalize hs : (if s.time.clock.minute = 0 then _ else s : State) = s0
  have h0 : LinesMoved s s0 := by
    rw [← hs]; split
    · exact ⟨_, _, _, _, _, _, _, rfl⟩
    · exact .refl s
  have h1 := h0.trans (takeover_moved s.time.clock.minute s0)
  generalize takeover s.time.clock.minute s0 = s1 at h1 ⊢
  split
  · exact h1.trans (LinesMoved.trans ⟨_, _, _, _, _, _, _, rfl⟩ (recompute_moved _))
  · exact h1.trans (LinesMoved.trans ⟨_, _, _, _, _, _, _, rfl⟩ (recompute_moved _))
  · split
    · exact h1.trans ⟨_, _, _, _, _, _, _, rfl⟩
    · exact h1.trans (LinesMoved.trans ⟨_, _, _, _, _, _, _, rfl⟩ (recompute_moved _))

theorem scheduleRestart_moved (s : State) : LinesMoved s (scheduleRestart s) :=
  (LinesMoved.trans ⟨_, _, _, _, _, _, _, rfl⟩ (scheduleLow_moved _).doses.feed.lines).trans
    (decideAdmission_moved _)

/-! ### Compliance monitor -/

theorem setMonitor_moved (l : Line) (r : ComplianceRecord) (s : State) : PlantMoved s (s.setMonitor l r) :=
  ⟨_, _, _, _, _, _, _, _, _, _, rfl⟩

theorem FlagsMoved.plant {s t : State} (h : FlagsMoved s t) : PlantMoved s t := h.doses.feed.lines.plant

theorem FeedMoved.plant {s t : State} (h : FeedMoved s t) : PlantMoved s t := h.lines.plant

theorem forEachInAnyOrder_plant {α : Type} {f : α → State → State} (h : ∀ a s, PlantMoved s (f a s))
    (xs : List α) (s : State) : PlantMoved s (forEachInAnyOrder xs f s) :=
  forEachInAnyOrder_rel .refl .trans PlantMoved.orders h xs s

theorem writeThrottle_moved (l : Line) (v : Nat) (s : State) : PlantMoved s (writeThrottle l v s) :=
  (setMonitor_moved _ _ _).trans (setCondition_moved _ _ _).plant

theorem runThrottleTask_moved (l : Line) (x : ThrottleTask) (s : State) : PlantMoved s (runThrottleTask l x s) := by
  cases x with
  | feed => exact (feedRun_moved l s).plant
  | allocator => exact (recompute_moved s).plant

theorem setThrottle_moved (l : Line) (v : Nat) (s : State) : PlantMoved s (setThrottle l v s) := by
  unfold setThrottle
  split
  · exact .refl s
  · exact (writeThrottle_moved l v s).trans (forEachInAnyOrder_plant (runThrottleTask_moved l) _ _)

theorem episodeCondition_moved (s : State) : FlagsMoved s (episodeCondition s) := setCondition_moved _ _ _

theorem configCondition_moved (s : State) : FlagsMoved s (configCondition s) := setCondition_moved _ _ _

theorem monitorOffline_moved (l : Line) (s : State) : PlantMoved s (monitorOffline l s) := by
  unfold monitorOffline
  simp only
  have h : PlantMoved s (setCondition (.throttled l) false (episodeCondition (s.setMonitor l
      { s.monitor.get l with episodeOpen := false, length := 0, compliant := 0, throttle := 1000 }))) :=
    ((setMonitor_moved _ _ _).trans (episodeCondition_moved _).plant).trans (setCondition_moved _ _ _).plant
  split
  · exact h
  · exact h.trans (recompute_moved _).plant

theorem feedOffline_moved (l : Line) (s : State) : LinesMoved s (feedOffline l s) :=
  ((setLine_moved _ _ _).trans (setFeed_moved _ _ _).lines).trans (referenceChanged_moved _ _ _).feed.lines

/-- Entering OFFLINE (R13) moves nothing of configuration, time, ledger, counters or bus. -/
theorem enterOffline_moved (l : Line) (s : State) : PlantMoved s (enterOffline l s) := by
  unfold enterOffline
  simp only
  refine PlantMoved.trans ?_ (monitorOffline_moved _ _)
  refine PlantMoved.trans ?_ (dosingOffline_moved _ _).feed.plant
  refine PlantMoved.trans ?_ (feedOffline_moved _ _).plant
  refine PlantMoved.trans (t := setCondition (.jam l) _ _) ?_ ⟨_, _, _, _, _, _, _, _, _, _, rfl⟩
  refine PlantMoved.trans ?_ (setCondition_moved _ _ _).plant
  refine PlantMoved.trans ?_ (gensOnLineState_moved _ _ _ _).feed.plant
  refine PlantMoved.trans ?_ (registryState_moved _ _ _ _).plant
  refine PlantMoved.trans ?_ (setCondition_moved _ _ _).plant
  exact ((setHold_moved _ _ _ _).trans (setLine_moved _ _ _)).plant

theorem monitorBlockClose_moved (l : Line) (rs : PerPollutant BlockStatus) (s : State) :
    PlantMoved s (monitorBlockClose l rs s) := by
  unfold monitorBlockClose
  split
  · exact setThrottle_moved _ _ _
  · exact .refl s

theorem setLockout_moved (l : Line) (b : Bool) (s : State) : PlantMoved s (setLockout l b s) :=
  (setMonitor_moved _ _ _).trans (setCondition_moved _ _ _).plant

theorem forceBurnout_moved (l : Line) (s : State) : PlantMoved s (forceBurnout l s) :=
  ((setLockout_moved _ _ _).trans (setFlag_moved _ _).plant).trans (leaveFor_moved _ _ _ _).plant

theorem evaluateEpisode_moved (l : Line) (c : PeriodClass) (s : State) :
    PlantMoved s (evaluateEpisode l c s) := by
  unfold evaluateEpisode
  simp only
  refine PlantMoved.trans ?_ (episodeCondition_moved _).plant
  split
  · exact (setMonitor_moved _ _ _).trans (setFlag_moved _ _).plant
  · exact setMonitor_moved _ _ _

theorem burnoutStage_moved (l : Line) (s : State) : PlantMoved s (burnoutStage l s) := by
  unfold burnoutStage
  split
  · exact forceBurnout_moved _ _
  · exact .refl _

theorem finishEvaluation_moved (l : Line) (s : State) : PlantMoved s (finishEvaluation l s) := by
  unfold finishEvaluation
  split
  · exact burnoutStage_moved l s
  · refine (writeThrottle_moved l _ s).trans (forEachInAnyOrder_plant (fun x s => ?_) _ _)
    cases x with
    | throttle x => exact runThrottleTask_moved l x s
    | burnout => exact burnoutStage_moved l s

/-- An evaluation moves nothing of configuration, time, ledger, counters or bus (R146). -/
theorem evaluatePeriod_moved (l : Line) (r : PerPollutant PeriodResult) (s : State) :
    PlantMoved s (evaluatePeriod l r s) := by
  unfold evaluatePeriod
  split
  · exact (evaluateEpisode_moved l (classify r) s).trans (finishEvaluation_moved l _)
  · exact setMonitor_moved _ _ _

/-! ### Closes and minute events -/

theorem FlagsMoved.clock {s t : State} (h : FlagsMoved s t) : ClockMoved s t := h.plant.clock

theorem setLedger_moved (l : Line) (r : LedgerLine) (s : State) : ClockMoved s (s.setLedger l r) :=
  ⟨_, _, _, _, _, _, _, _, _, _, _, _, _, rfl⟩

theorem forLines_clock {f : Line → State → State} (h : ∀ l s, ClockMoved s (f l s)) (ls : List Line)
    (s : State) : ClockMoved s (forLines ls f s) := forLines_rel .refl .trans h ls s

theorem forEachInAnyOrder_clock {α : Type} {f : α → State → State} (h : ∀ a s, ClockMoved s (f a s))
    (xs : List α) (s : State) : ClockMoved s (forEachInAnyOrder xs f s) :=
  forEachInAnyOrder_rel .refl .trans ClockMoved.orders h xs s

theorem slotCloseLine_moved (l : Line) (s : State) : ClockMoved s (slotCloseLine l s) := by
  unfold slotCloseLine
  simp only
  split
  · split
    · exact (setLedger_moved _ _ _).trans (setFlag_moved _ _).clock
    · exact setLedger_moved _ _ _
  · exact setLedger_moved _ _ _

theorem slotStage_moved (s : State) : ClockMoved s (slotStage s) := forLines_clock slotCloseLine_moved _ _

theorem dayStage_moved (s : State) : ClockMoved s (dayStage s) := by
  unfold dayStage
  simp only
  have h : ClockMoved s (setFlag .dayClosed (forLines s.fittedLines dayCloseLine s)) :=
    (forLines_clock (fun l s => setLedger_moved _ _ s) _ _).trans (setFlag_moved _ _).clock
  split
  · exact h.trans (setFlag_moved _ _).clock
  · exact h

theorem runBlockTask_moved (rs : PerLine (PerPollutant BlockStatus)) (cs : PerLine BlockCounts)
    (t : BlockTask) (s : State) : ClockMoved s (runBlockTask rs cs t s) := by
  cases t
  · exact (monitorBlockClose_moved _ _ _).clock
  · exact (dosingBlockClose_moved _ _ _ _ _).feed.plant.clock
  · exact (estimatorBlockClose_moved _ _ _).plant.clock

theorem restartBlockCounts_moved (l : Line) (s : State) : ClockMoved s (restartBlockCounts l s) :=
  ⟨_, _, _, _, _, _, _, _, _, _, _, _, _, rfl⟩

theorem restartMinuteCount_moved (l : Line) (s : State) : ClockMoved s (restartMinuteCount l s) :=
  ⟨_, _, _, _, _, _, _, _, _, _, _, _, _, rfl⟩

theorem periodCloseLine_moved (start : Nat) (l : Line) (s : State) :
    ClockMoved s (periodCloseLine start l s) := by
  unfold periodCloseLine
  exact (evaluatePeriod_moved _ _ _).clock.trans (setLedger_moved _ _ _)

theorem laterStages_moved (m : Nat) (s : State) : ClockMoved s (laterStages m s) := by
  unfold laterStages
  simp only
  have h : ClockMoved s (if m % 30 = 0 then periodStage m s else s) := by
    split
    · exact forEachInAnyOrder_clock (periodCloseLine_moved _) _ _
    · exact .refl s
  split
  · exact h.trans (dayStage_moved _)
  · exact h

theorem nextTie_clock (s : State) : ClockMoved s s.nextTie.2 := by
  obtain ⟨i, n, h⟩ := nextTie_moved s
  rw [h]; exact ClockMoved.orders s i n

theorem blockStages_moved (m : Nat) (s : State) : ClockMoved s (blockStages m s) := by
  unfold blockStages
  simp only
  generalize hb : forLines (forLines allLines restartBlockCounts s).fittedLines _ _ = s1
  have h1 : ClockMoved s s1 := by
    rw [← hb]
    exact (forLines_clock restartBlockCounts_moved _ _).trans
      (forLines_clock (fun l s => setLedger_moved _ _ s) _ _)
  refine ClockMoved.trans (h1.trans (nextTie_clock s1)) ?_
  generalize s1.nextTie.2 = s2
  split
  · exact (forEachInAnyOrder_clock (runBlockTask_moved _ _) _ _).trans (laterStages_moved _ _)
  · exact ((forEachInAnyOrder_clock (runBlockTask_moved _ _) _ _).trans (laterStages_moved _ _)).trans
      (forEachInAnyOrder_clock (runBlockTask_moved _ _) _ _)

/-- A close moves nothing of configuration or bus (R57). -/
theorem closeInstant_moved (s : State) : ClockMoved s (closeInstant s) := by
  unfold closeInstant
  simp only
  split
  · exact (slotStage_moved s).trans (blockStages_moved _ _)
  · exact slotStage_moved s

theorem registryMinuteLine_moved (n : Nat) (l : Line) (s : State) :
    LinesMoved s (registryMinuteLine n l s) :=
  (setLine_moved _ _ _).trans (setCondition_moved _ _ _).doses.feed.lines

theorem releaseShed_moved (l : Line) (s : State) : LinesMoved s (releaseShed l s) :=
  (setShed_moved _ _ _).trans (setReasons_moved _ _ _ _)

theorem allocatorMinute_moved (s : State) : LinesMoved s (allocatorMinute s) := by
  unfold allocatorMinute
  split
  · split
    · simp only
      split
      · exact releaseShed_moved _ _
      · exact (releaseShed_moved _ _).trans (recompute_moved _)
    · exact recompute_moved s
  · exact recompute_moved s

theorem runMinuteTask_moved (n : PerLine Nat) (t : MinuteTask) (s : State) :
    LinesMoved s (runMinuteTask n t s) := by
  cases t
  · exact forLines_lines (fun l s => registryMinuteLine_moved (n.get l) l s) _ _
  · exact allocatorMinute_moved s
  · exact minuteStep_moved s

/-- A minute event moves nothing of configuration or bus (R56). -/
theorem minuteInstant_moved (s : State) : ClockMoved s (minuteInstant s) :=
  (forLines_clock restartMinuteCount_moved _ _).trans
    (forEachInAnyOrder_clock (fun t s => (runMinuteTask_moved _ t s).plant.clock) _ _)

theorem takeClose_moved (s : State) : ClockMoved s (takeClose s) :=
  ClockMoved.trans ⟨_, _, _, _, _, _, _, _, _, _, _, _, _, rfl⟩ (closeInstant_moved _)

theorem takeMinute_moved (s : State) : ClockMoved s (takeMinute s) :=
  ClockMoved.trans ⟨_, _, _, _, _, _, _, _, _, _, _, _, _, rfl⟩ (minuteInstant_moved _)

theorem takeDue_moved (s : State) : ClockMoved s (takeDue s) := by
  unfold takeDue
  split
  · split
    · exact ((nextTie_clock s).trans (takeClose_moved _)).trans (takeMinute_moved _)
    · exact ((nextTie_clock s).trans (takeMinute_moved _)).trans (takeClose_moved _)
  · exact takeClose_moved s
  · exact takeMinute_moved s
  · exact .refl s

theorem jump_moved : ∀ (fuel n : Nat) (s : State), ClockMoved s (jump fuel n s) := by
  intro fuel
  induction fuel with
  | zero => exact fun n s => ⟨_, _, _, _, _, _, _, _, _, _, _, _, _, rfl⟩
  | succ fuel ih =>
    intro n s
    unfold jump
    simp only
    split
    · exact ClockMoved.trans (ClockMoved.trans ⟨_, _, _, _, _, _, _, _, _, _, _, _, _, rfl⟩
        (takeDue_moved _)) (ih _ _)
    · exact ⟨_, _, _, _, _, _, _, _, _, _, _, _, _, rfl⟩

end Sys2Proof.Machine
end

