-- ==== Sys2Proof/Laws/FlagFrames.lean ====
section
/-! SUPPORT. Which flags each shared operation can set: one lemma per operation, for any set of flags that names
those. -/

namespace Sys2Proof.Machine

variable {A : Flag → Prop}

theorem FlagsKept.refl (s : State) : FlagsKept A s s := fun _ => ⟨rfl, rfl, rfl, fun _ => ⟨id, fun _ => rfl⟩⟩

theorem FlagsKept.trans {s t u : State} (h : FlagsKept A s t) (h' : FlagsKept A t u) : FlagsKept A s u := by
  intro st
  obtain ⟨a, b, c, d⟩ := h st
  obtain ⟨a', b', c', d'⟩ := h' st
  exact ⟨a'.trans a, b'.trans b, c'.trans c, fun n => ⟨fun x => (d' n).1 ((d n).1 x),
    fun x => ((d' n).2 x).trans ((d n).2 x)⟩⟩

theorem FlagsKept.of_eq {s t : State} (h : t.flags = s.flags) : FlagsKept A s t := by
  intro st
  rw [h]
  exact FlagsKept.refl s st

theorem FlagsKept.mono {B : Flag → Prop} {s t : State} (hb : ∀ f, A f → B f) (h : FlagsKept A s t) :
    FlagsKept B s t := by
  intro st
  obtain ⟨a, b, c, d⟩ := h st
  exact ⟨a, b, c, fun n => ⟨(d n).1, fun x => (d n).2 fun f hf => x f (hb f hf)⟩⟩

theorem Flag.pos_lt (f : Flag) : f.pos < 16 := by cases f <;> simp [Flag.pos]

theorem raise_getLsbD (u : FlagUnit) (m n : Nat) (h : m < 16) :
    (u.raise m).flags.getLsbD n = (u.flags.getLsbD n || decide (n = m)) := by
  unfold FlagUnit.raise
  split
  · next hm =>
    by_cases e : n = m
    · subst e; simp [hm]
    · simp [e]
  · simp only [BitVec.getLsbD_or, flagBit, BitVec.getLsbD_twoPow]
    by_cases e : n = m
    · subst e; simp [h]
    · simp [e, Ne.symm e]

theorem raise_keeps (u : FlagUnit) (m : Nat) :
    (u.raise m).mask = u.mask ∧ (u.raise m).mode = u.mode ∧ (u.raise m).polarity = u.polarity := by
  unfold FlagUnit.raise
  split <;> exact ⟨rfl, rfl, rfl⟩

theorem setFlagUnit_kept {f : Flag} (hf : A f) (s : State) {u : FlagUnit}
    (hu : u.mask = (s.flags.get f.station).mask ∧ u.mode = (s.flags.get f.station).mode ∧
      u.polarity = (s.flags.get f.station).polarity)
    (hb : ∀ n, u.flags.getLsbD n = ((s.flags.get f.station).flags.getLsbD n || decide (n = f.pos)) ∨
      u.flags.getLsbD n = (s.flags.get f.station).flags.getLsbD n) :
    FlagsKept A s (s.setFlagUnit f.station u) := by
  intro st
  by_cases e : st = f.station
  · subst e
    simp only [State.setFlagUnit_flags, PerStation.get_set_self]
    refine ⟨hu.1, hu.2.1, hu.2.2, fun n => ⟨fun x => ?_, fun x => ?_⟩⟩
    · rcases hb n with h | h <;> simp [h, x]
    · have := (x f hf rfl).symm
      rcases hb n with h | h <;> simp [h, this]
  · simp [PerStation.get_set_other _ _ e]

theorem setFlag_kept {f : Flag} (hf : A f) (s : State) : FlagsKept A s (setFlag f s) :=
  setFlagUnit_kept hf s (raise_keeps _ _) fun n => .inl (raise_getLsbD _ _ n f.pos_lt)

theorem setCondition_kept {f : Flag} (hf : A f) (b : Bool) (s : State) : FlagsKept A s (setCondition f b s) := by
  unfold setCondition
  split
  · exact setFlagUnit_kept hf s (raise_keeps _ _) fun n => .inl (raise_getLsbD _ _ n f.pos_lt)
  · exact setFlagUnit_kept hf s ⟨rfl, rfl, rfl⟩ fun n => .inr rfl

/-- A condition that does not hold sets no flag. -/
theorem setCondition_false_kept (f : Flag) (s : State) : FlagsKept A s (setCondition f false s) := by
  intro st
  unfold setCondition
  by_cases e : st = f.station
  · subst e
    simp
  · simp [PerStation.get_set_other _ _ e]

theorem forLines_kept {f : Line → State → State} (h : ∀ l s, FlagsKept A s (f l s)) (ls : List Line) (s : State) :
    FlagsKept A s (forLines ls f s) := forLines_rel .refl .trans h ls s

theorem gensOnLineState_kept (l : Line) (old new : LineState) (s : State) :
    FlagsKept A s (gensOnLineState l old new s) := .of_eq rfl

theorem doseCompute_kept (hd : A .dosingLimit) (l : Line) (c : Channel) (s : State) :
    FlagsKept A s (doseCompute l c s) := by
  unfold doseCompute
  simp only
  refine FlagsKept.trans (.of_eq ?_) (setCondition_kept hd _ _)
  split <;> rfl

theorem doseComputeBoth_kept (hd : A .dosingLimit) (l : Line) (s : State) : FlagsKept A s (doseComputeBoth l s) :=
  (doseCompute_kept hd _ _ _).trans (doseCompute_kept hd _ _ _)

theorem referenceChanged_kept (hd : A .dosingLimit) (l : Line) (b : Option Nat) (s : State) :
    FlagsKept A s (referenceChanged l b s) := by
  unfold referenceChanged
  split
  · exact .refl _
  · exact doseComputeBoth_kept hd _ _

theorem feedRun_kept (hd : A .dosingLimit) (l : Line) (s : State) : FlagsKept A s (feedRun l s) := by
  unfold feedRun
  split
  · exact .refl _
  iterate 3 exact .of_eq rfl
  iterate 4 exact FlagsKept.trans (.of_eq rfl) (referenceChanged_kept hd _ _ _)

theorem registryState_kept (l : Line) (new : LineState) (b : Bool) (s : State)
    (hc : new = .connecting → A (.clearToConnect l)) (hs : b = true → A (.stateChanged l)) :
    FlagsKept A s (registryState l new b s) := by
  unfold registryState
  simp only
  have h : FlagsKept A s
      (setCondition (.clearToConnect l) (decide (new = .connecting)) (s.setLine l { s.line l with state := new })) := by
    refine FlagsKept.trans (t := s.setLine l { s.line l with state := new }) (.of_eq rfl) ?_
    by_cases e : new = .connecting
    · exact setCondition_kept (hc e) _ _
    · simp only [e, decide_false]
      exact setCondition_false_kept _ _
  split
  · next hb => exact h.trans (setFlag_kept (hs hb) _)
  · exact h

theorem changeState_kept (hd : A .dosingLimit) (l : Line) (new : LineState) (b : Bool) (s : State)
    (hc : new = .connecting → A (.clearToConnect l)) (hs : b = true → A (.stateChanged l)) :
    FlagsKept A s (changeState l new b s) :=
  ((registryState_kept l new b s hc hs).trans (gensOnLineState_kept _ _ _ _)).trans (doseComputeBoth_kept hd _ _)

theorem enterPlain_kept (hd : A .dosingLimit) (l : Line) (new : LineState) (b : Bool) (s : State)
    (hc : new = .connecting → A (.clearToConnect l)) (hs : b = true → A (.stateChanged l)) :
    FlagsKept A s (enterPlain l new b s) :=
  (changeState_kept hd l new b s hc hs).trans (feedRun_kept hd _ _)

theorem setShed_kept (h : A .shed) (l : Line) (b : Bool) (s : State) : FlagsKept A s (setShed l b s) :=
  FlagsKept.trans (t := { s with alloc := { s.alloc with shed := s.alloc.shed.set l b } }) (.of_eq rfl)
    (setCondition_kept h _ _)

/-- The flags of the allocator are among `A` (R44 to R46, R38, R39). -/
def HasAlloc (A : Flag → Prop) : Prop := ∀ f, allocFlags f → A f

theorem shedLine_kept (h : HasAlloc A) (l : Line) (s : State) : FlagsKept A s (shedLine l s) := by
  have h1 : FlagsKept A s (setHold l ⟨false, true, false⟩ (some .connected) s) := .of_eq rfl
  exact (h1.trans (setShed_kept (h .shed trivial) _ _ _)).trans
    (enterPlain_kept (h .dosingLimit trivial) _ _ _ _ (fun e => by cases e)
      (fun _ => h (.stateChanged l) trivial))

theorem targetFeedback_kept (s : State) : FlagsKept A s (targetFeedback s) := by
  unfold targetFeedback
  simp only
  split
  · split
    · exact .of_eq rfl
    · exact .refl _
  · exact .of_eq rfl

theorem flagAssignment_kept (h : HasAlloc A) (l : Line) (s : State) : FlagsKept A s (flagAssignment l s) := by
  unfold flagAssignment
  simp only
  split
  · exact FlagsKept.trans (.of_eq rfl) (setFlag_kept (h (.assignmentChanged l) trivial) _)
  · exact .refl _

theorem flagTarget_kept (h : HasAlloc A) (s : State) : FlagsKept A s (flagTarget s) := by
  unfold flagTarget
  simp only
  split
  · exact FlagsKept.trans (.of_eq rfl) (setFlag_kept (h .targetChanged trivial) _)
  · exact .refl _

theorem allocConditions_kept (h : HasAlloc A) (s : State) : FlagsKept A s (allocConditions s) :=
  (setCondition_kept (h .bypassActive trivial) _ _).trans (setCondition_kept (h .shortfall trivial) _ _)

theorem recompute_kept (h : HasAlloc A) (s : State) : FlagsKept A s (recompute s) := by
  unfold recompute
  simp only
  refine FlagsKept.trans ?_ (forLines_kept (fun l s => feedRun_kept (h .dosingLimit trivial) l s) _ _)
  refine FlagsKept.trans ?_ (allocConditions_kept h _)
  refine FlagsKept.trans ?_ (flagTarget_kept h _)
  refine FlagsKept.trans ?_ (forLines_kept (fun l s => flagAssignment_kept h l s) _ _)
  refine FlagsKept.trans ?_ (targetFeedback_kept _)
  exact FlagsKept.trans (forLines_kept (fun l s => shedLine_kept h l s) _ _) (.of_eq rfl)

/-- A change of line state that does not touch CONNECTED sets no flag of the allocator. -/
theorem enter_plain_kept (hd : A .dosingLimit) (l : Line) (new : LineState) (b : Bool) (s : State)
    (ho : s.lineState l ≠ .connected) (hn : new ≠ .connected)
    (hc : new = .connecting → A (.clearToConnect l)) (hs : b = true → A (.stateChanged l)) :
    FlagsKept A s (enter l new b s) := by
  unfold enter
  simp only [ho, hn, or_self, decide_false, Bool.false_eq_true, if_false]
  exact (changeState_kept hd l new b s hc hs).trans (feedRun_kept hd _ _)

theorem enter_kept (h : HasAlloc A) (l : Line) (new : LineState) (b : Bool) (s : State)
    (hc : new = .connecting → A (.clearToConnect l)) (hs : b = true → A (.stateChanged l)) :
    FlagsKept A s (enter l new b s) := by
  unfold enter
  simp only
  refine FlagsKept.trans ?_ (feedRun_kept (h .dosingLimit trivial) _ _)
  split
  · exact (changeState_kept (h .dosingLimit trivial) l new b s hc hs).trans (recompute_kept h _)
  · exact changeState_kept (h .dosingLimit trivial) l new b s hc hs

theorem grantTest_kept (hd : A .dosingLimit) (hc : ∀ l, A (.clearToConnect l)) (hs : ∀ l, A (.stateChanged l))
    (s : State) : FlagsKept A s (grantTest s) := by
  unfold grantTest
  split
  · exact .refl _
  · split
    · refine FlagsKept.trans ?_ (enterPlain_kept hd _ _ _ _ (fun _ => hc _) (fun _ => hs _))
      exact .of_eq rfl
    · exact .refl _

end Sys2Proof.Machine
end

