-- ==== Sys2Proof/Laws/Owners.lean ====
section
/-! SUPPORT. Shared operations of the owners in the words of Safety: what a buffer, a handed period, the demand and the
admission target do. -/

namespace Sys2Proof.Machine

/-! ### Generators -/

/-- Taking the buffer, in one update (R97). -/
theorem takeBuffer_eq (g : GenRecord) : g.takeBuffer = { g with current := g.periodTaken, buffer := .empty } := by
  cases g with | mk _ _ _ _ b => cases b <;> rfl

@[simp] theorem takeBuffer_current (g : GenRecord) : g.takeBuffer.current = g.periodTaken := by rw [takeBuffer_eq]

@[simp] theorem takeBuffer_buffer (g : GenRecord) : g.takeBuffer.buffer = .empty := by rw [takeBuffer_eq]

/-- What `hand` does is the table of R102. -/
theorem hand_handed (g : GenRecord) (q : Option Nat) : Handed g q (g.hand q) := by
  refine ⟨fun h => ?_, fun h => ⟨fun hq => ?_, fun x hq => ?_⟩, fun h => ⟨fun hq => ?_, fun x hq c hc => ?_⟩⟩
  · rcases h with h | h <;> simp [GenRecord.hand, h]
  · simp [GenRecord.hand, h, hq]
  · simp [GenRecord.hand, h, hq]
  · simp [GenRecord.hand, h, hq]
  · simp [GenRecord.hand, h, hq, hc]

/-! ### Scheduler -/

@[simp] theorem handDemand_handed (s : State) :
    (handDemand s).sched.handed = charLookup s.config.plant s.sched.ramped := rfl

@[simp] theorem handDemand_ramped (s : State) : (handDemand s).sched.ramped = s.sched.ramped := rfl

@[simp] theorem handDemand_mode (s : State) : (handDemand s).sched.mode = s.sched.mode := rfl

@[simp] theorem handDemand_ceiling (s : State) : (handDemand s).sched.ceiling = s.sched.ceiling := rfl

@[simp] theorem handDemand_queue (s : State) : (handDemand s).sched.queue = s.sched.queue := rfl

@[simp] theorem handDemand_active (s : State) : (handDemand s).sched.active = s.sched.active := rfl

@[simp] theorem handDemand_turbine (s : State) : (handDemand s).sched.turbine = s.sched.turbine := rfl

@[simp] theorem handDemand_alloc (s : State) : (handDemand s).alloc = s.alloc := rfl

@[simp] theorem handDemand_config (s : State) : (handDemand s).config = s.config := rfl

/-- The scheduler acts on the admission target as R72 says. -/
theorem targetFeedback_follows (s : State) : ExportFollows s (targetFeedback s) := by
  unfold ExportFollows targetFeedback
  cases hm : s.sched.mode with
  | steamLed => rfl
  | powerLed => simp only; split <;> simp

end Sys2Proof.Machine
end

