-- ==== Sys2Proof/Laws/Requests.lean ====
section
/-! SUPPORT. What the bus port does with a request: one lemma for a request that reaches its owner, one for a broadcast, one
for each refusal, and the lengths of the fields of an answer. -/

namespace Sys2Proof.Machine

/-- A length a kind allows is at most 48 bytes (12.2). -/
theorem lengthAllowed_le {k : Kind} {n : Nat} (h : lengthAllowed k n = true) : n ≤ 48 := by
  cases k <;> simp [lengthAllowed] at h <;> omega

/-- The line of a request that reaches its owner. -/
theorem Reaches.lineOf_eq {k : Kind} {f : Frame} {st : Station} {l : Line} {s : State} (h : Reaches k f st l s)
    (hk : (lineNamed k f).isSome = true) : lineOf k f = l := by
  obtain ⟨n, hn⟩ := Option.isSome_iff_exists.1 hk
  simp [lineOf, hn, (h.line n hn).2]

/-- A request that reaches its owner is answered with what the owner gives back. -/
theorem request_reaches {k : Kind} {f : Frame} {st : Station} {l : Line} {s : State} (h : Reaches k f st l s)
    (owner : Station → Line → State → Reply) :
    request k f owner s =
      (owner st (lineOf k f) (s.setBus (s.bus.passed k.code f))).answered k.code f := by
  obtain ⟨running, listening, unicast, foreign, sender, right, length, line⟩ := h
  have h48 := lengthAllowed_le length
  have hi : ignoredTelegram s.bus.address k.code f = false := by
    simp [ignoredTelegram, foreign, unicast]
  have hc : ∀ s', (∀ l, s'.fitted l = s.fitted l) → checked k f owner s' = owner st (lineOf k f) s' := by
    intro s' hs'
    simp only [checked, sender, right, length, Bool.true_eq_false, if_false]
    split
    · next n hn =>
      have : lineAllowed s' st n = lineAllowed s st n := by
        simp only [lineAllowed, hs']
      simp [this, (line n hn).1]
    · rfl
  simp only [request, takeTelegram, running, Bool.false_eq_true, if_false, listening, Bool.true_eq_false, hi, unicast,
    if_true, Nat.not_lt.2 h48]
  rw [hc (s.setBus (s.bus.settled (restCount (checkByte (telegramBody k.code f))))) fun _ => rfl]
  rfl

/-- The kinds taken from broadcast name no line. -/
theorem lineNamed_of_broadcast {k : Kind} {f : Frame} {src : Byte} (h : broadcastTaken k src = true) :
    lineNamed k f = none := by
  cases k <;> simp [broadcastTaken] at h <;> rfl

theorem kindOfCode_code (k : Kind) : kindOfCode k.code = some k := by cases k <;> rfl

/-- The code a kind has is no other kind's. -/
theorem kindOfCode_eq {k : Kind} {b : Byte} : kindOfCode b = some k ↔ b = k.code := by
  constructor
  · intro h
    have := List.find?_some h
    exact (by simpa using this : k.code = b).symm
  · rintro rfl
    exact kindOfCode_code k

/-- A broadcast that is taken goes to its owner, and no answer follows. -/
theorem request_broadcast {k : Kind} {f : Frame} {s : State} (h : ReachesAll k f s)
    (owner : Station → Line → State → Reply) :
    ∃ st, stationOfNumber f.src.toNat = some st ∧
      request k f owner s = (owner st (lineOf k f) (s.setBus (s.bus.passed k.code f))).state := by
  obtain ⟨running, listening, broadcast, notOwn, foreign, taken, length⟩ := h
  have h48 := lengthAllowed_le length
  have hd : f.dst ≠ s.bus.address := fun e => notOwn (e.symm.trans broadcast)
  have hi : ignoredTelegram s.bus.address k.code f = false := by
    simp [ignoredTelegram, foreign, broadcast, kindOfCode_code, taken]
  obtain ⟨st, hst, hg⟩ : ∃ st, stationOfNumber f.src.toNat = some st ∧ granted k st = true := by
    cases k <;> simp [broadcastTaken] at taken <;> rw [taken] <;> exact ⟨_, rfl, rfl⟩
  refine ⟨st, hst, ?_⟩
  simp only [request, takeTelegram, running, Bool.false_eq_true, if_false, listening, Bool.true_eq_false, hi, hd,
    Nat.not_lt.2 h48, checked, hst, hg, length, lineNamed_of_broadcast taken]
  rfl

/-- A request that finds the receiver deaf only moves the idle count (R164). -/
theorem request_deaf {k : Kind} {f : Frame} {s : State} (running : s.pins.resetLow = false)
    (deaf : s.bus.receives = false) (h48 : f.payload.length ≤ 48) (owner : Station → Line → State → Reply) :
    request k f owner s =
      s.setBus { s.bus with idleCount := restCount (checkByte (telegramBody k.code f)) } := by
  simp only [request, takeTelegram, running, Bool.false_eq_true, if_false, deaf, if_true, Nat.not_lt.2 h48, passOver]

/-- A request that fails a check of the bus port is answered with that check's code and nothing else moves (R170). -/
theorem request_refused {k : Kind} {f : Frame} {s : State} {c : Code} (running : s.pins.resetLow = false)
    (listening : s.bus.receives = true) (unicast : f.dst = s.bus.address) (foreign : f.src ≠ s.bus.address)
    (h48 : f.payload.length ≤ 48) (owner : Station → Line → State → Reply)
    (hc : ∀ s', (∀ l, s'.fitted l = s.fitted l) → checked k f owner s' = portRefusal c s') :
    request k f owner s = { s with bus := s.bus.answering k.code f c [] } := by
  have hi : ignoredTelegram s.bus.address k.code f = false := by
    simp [ignoredTelegram, foreign, unicast]
  simp only [request, takeTelegram, running, Bool.false_eq_true, if_false, listening, Bool.true_eq_false, hi, unicast,
    if_true, Nat.not_lt.2 h48]
  rw [hc (s.setBus (s.bus.settled (restCount (checkByte (telegramBody k.code f))))) fun _ => rfl]
  rfl

/-! ### Lengths -/

@[simp] theorem bytesOf_length (n v : Nat) : (bytesOf n v).length = n := by
  induction n generalizing v with
  | zero => rfl
  | succ n ih => simp [bytesOf, ih]

@[simp] theorem u8_length (v : Nat) : (u8 v).length = 1 := bytesOf_length 1 v
@[simp] theorem u16_length (v : Nat) : (u16 v).length = 2 := bytesOf_length 2 v
@[simp] theorem u24_length (v : Nat) : (u24 v).length = 3 := bytesOf_length 3 v
@[simp] theorem u32_length (v : Nat) : (u32 v).length = 4 := bytesOf_length 4 v
@[simp] theorem s16_length (v : Int) : (s16 v).length = 2 := bytesOf_length 2 _
@[simp] theorem s24_length (v : Int) : (s24 v).length = 3 := bytesOf_length 3 _
@[simp] theorem periodField_length (q : Option Nat) : (periodField q).length = 3 := u24_length _
@[simp] theorem orAbsent8_length (v : Option Nat) : (orAbsent8 v).length = 1 := u8_length _
@[simp] theorem orAbsent16_length (v : Option Nat) : (orAbsent16 v).length = 2 := u16_length _
@[simp] theorem orAbsentS24_length (v : Option Int) : (orAbsentS24 v).length = 3 := s24_length _

/-- How many bytes a piece of a payload fills. -/
def Piece.size : Piece → Nat
  | .bytes b => b.length
  | .free n => n

/-- The free places of a payload are filled one byte each. -/
theorem render_length (k : Nat) (ps : List Piece) : (render k ps).length = (ps.map Piece.size).sum := by
  induction ps generalizing k with
  | nil => rfl
  | cons p ps ih => cases p <;> simp [render, ih, Piece.size]

end Sys2Proof.Machine
end

