-- ==== Sys2Proof/Tests/Slice0.lean ====
section
/-! SUPPORT. Tests. Expected values stand in the manual's worked cases, named beside each test, or are worked by hand from
its rules; check bytes were worked outside the model. Each `witness_<Name>` shows concrete states and operands that meet
the hypotheses of the statement `<Name>`, clause by clause. -/

namespace Sys2Proof.Tests

open Sys2Proof.Machine

set_option Elab.async false

/-! ### Helpers -/

/-- A telegram to the part at address 8. -/
def ask (src sel : Nat) (p : List Nat) : Frame :=
  ⟨BitVec.ofNat 8 src, 8#8, BitVec.ofNat 8 sel, p.map (BitVec.ofNat 8)⟩

/-- A broadcast. -/
def tell (src : Nat) (p : List Nat) : Frame :=
  ⟨BitVec.ofNat 8 src, 0#8, 0#8, p.map (BitVec.ofNat 8)⟩

/-- The state after a command. -/
def after (c : Instr) (s : State) : State :=
  match exec c s with
  | .next t => t
  | _ => s

/-- A station's flags with the set and the conditions that hold given. -/
def unit (flags holds : FlagWord) : FlagUnit :=
  ⟨flags, 0xFFFE#16, .level, .activeLow, 0, holds⟩

/-- The part after the release of RESET with three lines fitted at address 8 (R1, R177), the bus at rest. The orders the
spec leaves open keep the order written (log 2). -/
def up : State :=
  { State.reset with
    pins := { State.reset.pins with resetLow := false }
    bus := { BusPort.reset with idleCount := 20 }
    flags := ⟨.all (unit 0x0001 0), unit 0x0011 0x0010, unit 0x0001 0, unit 0x0D01 0x0D00⟩
    ties := List.replicate 40 true }

/-- `up` with a valid clock at 12:09:20.00 and a fresh header within the connect window. -/
def day : State :=
  { up with
    time := ⟨70000#32, ⟨729, 20, 0, true, 0⟩, false, false⟩
    registry := { up.registry with header := ⟨4000, 10, 70000#32, false⟩ } }

/-- Line A of a state put into a line state. -/
def lineA (x : LineState) (s : State) : State :=
  s.setLine .a { s.line .a with state := x }

/-- Line A CONNECTED. -/
def joined : State := lineA .connected day

/-- Line A in HOLD with the reasons and the return state given. -/
def held (r : Reasons) (ret : ReturnState) : State :=
  day.setLine .a { day.line .a with state := .hold, reasons := r, returnTo := some ret }

/-- A generator of line A changed in a state. -/
def genA (k : Gen) (f : GenRecord → GenRecord) (s : State) : State :=
  s.setGen .a k (f (s.gen .a k))

/-- The time base of a state at a time of day, with the marks of a boundary reached. -/
def atTime (minute second : Nat) (slot due : Bool) (s : State) : State :=
  { s with time := { s.time with clock := ⟨minute, second, 0, true, 0⟩, slotDue := slot, minuteDue := due } }

/-- The code of the answer that waits. -/
def code (s : State) : Option Code := s.bus.answer.map Answer.code

/-- The payload of the answer that waits, as numbers. -/
def said (s : State) : List Nat := s.payload.map BitVec.toNat

/-- Whether a request reaches its owner, as a Bool. -/
def reaches (k : Kind) (f : Frame) (st : Station) (l : Line) (s : State) : Bool :=
  !s.pins.resetLow && s.bus.receives && decide (f.dst = s.bus.address) && decide (f.src ≠ s.bus.address) &&
    decide (stationOfNumber f.src.toNat = some st) && granted k st && lengthAllowed k f.payload.length &&
    match lineNamed k f with
    | some n => lineAllowed s st n && decide (lineOfNumber n = some l)
    | none => true

/-- `reaches` decides `Reaches`. -/
theorem meets {k : Kind} {f : Frame} {st : Station} {l : Line} {s : State} (h : reaches k f st l s = true) :
    Reaches k f st l s := by
  simp only [reaches, Bool.and_eq_true, Bool.not_eq_true', decide_eq_true_eq] at h
  obtain ⟨⟨⟨⟨⟨⟨⟨h1, h2⟩, h3⟩, h4⟩, h5⟩, h6⟩, h7⟩, h8⟩ := h
  refine ⟨h1, h2, h3, h4, h5, h6, h7, fun n hn => ?_⟩
  rw [hn] at h8
  simpa using h8

/-! ### Well-formed commands: an ill-formed term is refused by each check -/

theorem test_wf_payload : Instr.wellFormed (.sample ⟨5#8, 8#8, 1#8, List.replicate 49 0#8⟩) = false := by decide +kernel

theorem test_wf_payload_most : Instr.wellFormed (.sample ⟨5#8, 8#8, 1#8, List.replicate 48 0#8⟩) = true := by decide +kernel

theorem test_wf_length : Instr.wellFormed (.telegramDiscard (.badLength 48#8)) = false ∧
    Instr.wellFormed (.telegramDiscard (.badLength 49#8)) = true := by decide +kernel

theorem test_wf_check : Instr.wellFormed (.telegramDiscard (.badCheck [4#8, 8#8, 0x50#8, 0#8, 0#8] 0xBE#8)) = false ∧
    Instr.wellFormed (.telegramDiscard (.badCheck [4#8, 8#8, 0x50#8, 0#8, 0#8] 0xBF#8)) = true := by decide +kernel

theorem test_wf_body : Instr.wellFormed (.telegramDiscard (.badCheck [4#8, 8#8, 0x50#8, 0#8] 0#8)) = false ∧
    Instr.wellFormed (.telegramDiscard (.badCheck (List.replicate 54 0#8) 1#8)) = false := by decide +kernel

theorem test_wf_unknown_kind : Instr.wellFormed (.unknownKindRequest 0x01#8 (ask 1 1 [])) = false ∧
    Instr.wellFormed (.unknownKindRequest 0x99#8 (ask 1 1 [])) = true := by decide +kernel

theorem test_wf_read_back : Instr.wellFormed (.answerCollision (List.replicate 54 0#8)) = false := by decide +kernel

/-! ### Telegrams, byte by byte (12.1, 12.2, 12.8) -/

theorem test_check_worked : checkByte [0x04#8, 0x08#8, 0x50#8, 0x00#8, 0x00#8] = 0xBE#8 := by decide +kernel

theorem test_check_whole : checkByte [0x04#8, 0x08#8, 0x50#8, 0x00#8, 0x00#8, 0xBE#8] = 0x00#8 := by decide +kernel

theorem test_bytes_flags_read :
    commandOfBytes 8#8 [0x04#8, 0x08#8, 0x50#8, 0x00#8, 0x00#8, 0xBE#8] = .flagsRead (ask 4 0 []) := by decide +kernel

theorem test_bytes_line_start :
    commandOfBytes 8#8 [0x01#8, 0x08#8, 0x01#8, 0x01#8, 0x00#8, 0xDA#8] = .lineStart (ask 1 1 []) := by decide +kernel

theorem test_bytes_generator_read :
    commandOfBytes 8#8 [0x02#8, 0x08#8, 0x10#8, 0x00#8, 0x03#8, 0x02#8, 0x01#8, 0x00#8, 0x9B#8] =
      .generatorRead (ask 2 0 [2, 1, 0]) := by decide +kernel

theorem test_bytes_header_state :
    commandOfBytes 8#8 [0x04#8, 0x00#8, 0x20#8, 0x00#8, 0x04#8, 0x0F#8, 0x6E#8, 0x00#8, 0x0A#8, 0x33#8] =
      .headerState (tell 4 [0x0F, 0x6E, 0, 10]) := by decide +kernel

theorem test_bytes_dose_override :
    commandOfBytes 8#8 [0x05#8, 0x08#8, 0x31#8, 0x01#8, 0x04#8, 0x02#8, 0x01#8, 0xD4#8, 0xC0#8, 0xF2#8] =
      .doseOverride (ask 5 1 [2, 1, 0xD4, 0xC0]) := by decide +kernel

theorem test_bytes_config_write :
    commandOfBytes 8#8
        [0x06#8, 0x08#8, 0x45#8, 0x00#8, 0x07#8, 0x01#8, 0x00#8, 0x00#8, 0x04#8, 0x00#8, 0x01#8, 0x90#8, 0xA8#8] =
      .configWrite (ask 6 0 [1, 0, 0, 4, 0, 1, 0x90]) := by decide +kernel

theorem test_bytes_unknown_kind :
    commandOfBytes 8#8 [0x04#8, 0x08#8, 0x99#8, 0x00#8, 0x00#8, 0x9D#8] = .unknownKindRequest 0x99#8 (ask 4 0 []) := by
  decide +kernel

theorem test_bytes_wrong_check :
    commandOfBytes 8#8 [0x01#8, 0x08#8, 0x01#8, 0x01#8, 0x00#8, 0xDB#8] =
      .telegramDiscard (.badCheck [0x01#8, 0x08#8, 0x01#8, 0x01#8, 0x00#8] 0xDB#8) := by decide +kernel

/-! ### Reset and the bus -/

theorem test_release : ∀ t, exec (.resetRelease 0#2 3#3) State.reset = .next t →
    t.bus.address = 11#8 ∧ t.flags.supervisory.flags = 0x0D01#16 ∧ t.notifyHigh .turbine = false := by
  intro t h; cases h; decide +kernel

theorem test_pin_reset_stops_answer : (after .pinReset (after (.flagsRead (ask 4 0 [])) up)).bus.answer = none := by
  decide +kernel

/-- R170, check 2. -/
theorem test_unknown_kind_answer : code (after (.unknownKindRequest 0x99#8 (ask 4 0 [])) up) = some .unknownKind := by
  decide +kernel

/-- R171: station 4 has no right to LINE_START; station 2 may not start line 1. -/
theorem test_port_refusals : code (after (.lineStart (ask 4 1 [])) day) = some .notPermitted ∧
    code (after (.lineStart (ask 2 1 [])) day) = some .wrongLine ∧
    code (after (.lineStart (ask 1 1 [0])) day) = some .badLength := by decide +kernel

/-- R165: a discard sets BUS_FAULT, position 12 of station 6. -/
theorem test_discard_flags : (after (.telegramDiscard .badStop) up).flagSet .busFault = true := by decide +kernel

theorem test_gap_rests : (after .busGapDiscard up).bus.idleCount = 20 := by decide +kernel

theorem test_recovery : (after .recoveryEnd (after .receiverReset up)).bus.receives = true := by decide +kernel

theorem test_answer_dropped :
    (after (.answerCollision [0x08#8]) (after .answerSend (after (.flagsRead (ask 4 0 [])) up))).bus.inProgress =
      [0x08#8] := by decide +kernel

theorem test_noise_before_rest :
    (after .noiseBurst { up with bus := { up.bus with idleCount := 12 } }).bus.idleCount = 0 := by decide +kernel

/-! ### Line requests -/

/-- Line A OFFLINE with nothing to hinder a start: every group it needs written, its budget loaded (R4, R5). -/
def ready : State :=
  let genSet (g : GenConfig) : GenConfig := { g with written := true }
  { day with
    config := { day.config with
      plant := { day.config.plant with written := true }
      line := day.config.line.set .a { day.config.line.a with written := true }
      gen := day.config.gen.set .a
        ⟨genSet .resetStroke, genSet .resetStroke, genSet .resetStroke, genSet .resetStroke, genSet .resetPulse,
          genSet .resetPulse⟩
      ledger := day.config.ledger.set .a
        (let p := day.config.ledger.a
        ⟨{ p.co with written := true }, { p.nox with written := true }, { p.so2 with written := true },
          { p.hcl with written := true }, { p.dust with written := true }, { p.toc with written := true }⟩)
      dosing := day.config.dosing.set .a
        (let d := day.config.dosing.a
        ⟨{ d.nox with written := true }, { d.acid with written := true }⟩) }
    monitor := day.monitor.set .a { day.monitor.a with budgetLoaded := true } }

/-- R5: a configured line with a valid clock starts. -/
theorem test_line_start : code (after (.lineStart (ask 1 1 [])) ready) = some .accepted ∧
    (after (.lineStart (ask 1 1 [])) ready).lineState .a = .firingUp := by decide +kernel

theorem test_line_start_not_configured : code (after (.lineStart (ask 2 2 [])) ready) = some .notConfigured := by
  decide +kernel

/-- 1.10, step 1: the slot free and the header open, the request is granted in the same operation. -/
theorem test_connect_granted :
    (after (.connectRequest (ask 1 1 [])) (lineA .firingUp day)).lineState .a = .connecting ∧
    said (after (.connectRequest (ask 1 1 [])) (lineA .firingUp day)) = [3] := by decide +kernel

/-- Line A in CONNECTING since tick 70000, line B waiting behind it. -/
def connecting : State :=
  { lineA .connecting day with
    registry := { (lineA .connecting day).registry with
      lines := (lineA .connecting day).registry.lines.set .b { LineRecord.reset with state := .connectPending }
      queue := [.b]
      slot := some ⟨.a, 70000#32, 18000⟩ }
    flags := day.flags.set (.lineCtl .a) (unit 0x0003 0x0002) }

/-- 1.10, step 5: CONNECT_DONE frees the slot; with a surge in the header the next head is not granted. -/
theorem test_connect_done :
    let s := { connecting with registry := { connecting.registry with header := ⟨4180, 60, 70000#32, false⟩ } }
    (after (.connectDone (ask 1 1 [])) s).lineState .a = .connected ∧
      (after (.connectDone (ask 1 1 [])) s).registry.queue = [.b] ∧
      (after (.connectDone (ask 1 1 [])) s).registry.slot = none := by decide +kernel

/-- 1.10, steps 8 and 10: the timer ends the connect after 180 s, and the head waiting is granted. -/
theorem test_connect_timeout :
    let s := { connecting with time := { connecting.time with tick := 88000#32 } }
    (after .connectTimeout s).lineState .a = .firingUp ∧ (after .connectTimeout s).lineState .b = .connecting := by
  decide +kernel

theorem test_connect_cancel :
    (after (.connectCancel (ask 2 2 [])) connecting).lineState .b = .firingUp ∧
    (after (.connectCancel (ask 2 2 [])) connecting).registry.queue = [] := by decide +kernel

/-- R7: out of CONNECTED the line leaves the allocation. -/
theorem test_feed_hold : (after (.feedHold (ask 1 1 [])) joined).line .a =
    { joined.line .a with state := .hold, reasons := ⟨true, false, false⟩, returnTo := some .connected } := by
  decide +kernel

/-- R8: with JAM left the line stays in HOLD. -/
theorem test_feed_release :
    (after (.feedRelease (ask 1 1 [])) (held ⟨true, false, false⟩ .firingUp)).lineState .a = .firingUp ∧
    (after (.feedRelease (ask 1 1 [])) (held ⟨true, false, true⟩ .firingUp)).lineState .a = .hold := by decide +kernel

theorem test_line_stop : (after (.lineStop (ask 1 1 [])) joined).lineState .a = .burnout := by decide +kernel

theorem test_burnout_done : (after (.burnoutDone (ask 1 1 [])) (lineA .burnout day)).lineState .a = .offline := by
  decide +kernel

/-- R98, R14: a trip aborts the stroke in flight. -/
theorem test_line_trip :
    ((after (.lineTrip (ask 1 1 [])) (genA .feed (fun g => { g with phase := .active }) joined)).gen .a .feed).aborted =
      1#16 ∧
    code (after (.lineTrip (ask 1 1 [])) day) = some .badState := by decide +kernel

theorem test_trip_reset : (after (.tripReset (ask 1 1 [])) (lineA .tripped day)).lineState .a = .offline := by
  decide +kernel

/-- 5.5: from assignment 400 to 14,146 kg/h and a feeder period of 651,491 fine units; Z1 at 150 %. -/
theorem test_startup_feed_connected :
    let s := { joined with
      alloc := { joined.alloc with record := { joined.alloc.record with assigned := ⟨400, 0, 0⟩ } }
      config := { joined.config with
        gen := joined.config.gen.set .a
          { GenConfig.resetLine with z1 := { GenConfig.resetStroke with zoneRatio := 150 } } } }
    let t := after (.startupFeed (ask 1 1 [0, 100])) s
    (t.feed.get .a).m1 = 14146 ∧ (t.feed.get .a).m4 = 14146 ∧ (t.feed.get .a).periods.feed = some 651491 ∧
      (t.feed.get .a).periods.z1 = some 977236 ∧ (t.feed.get .a).paced = 14146 := by decide +kernel

theorem test_startup_feed_clamped : code (after (.startupFeed (ask 1 1 [0x1F, 0x41])) day) = some .acceptedClamped ∧
    said (after (.startupFeed (ask 1 1 [0x1F, 0x41])) day) = [0x1F, 0x40, 0, 0, 0] := by decide +kernel

/-! ### Generators -/

/-- A generator of line A running with source AUTO on a period of 1,000 ticks. -/
def running (k : Gen) (s : State) : State :=
  genA k (fun g => { g with
    run := .running, source := .auto, configured := true, current := some 64000, countdown := some 1 }) s

/-- R111: MANUAL to AUTO in a line that permits it starts by preset. -/
theorem test_source_select :
    let s := genA .z1 (fun g => { g with current := some 64000 }) joined
    ((after (.sourceSelect (ask 1 1 [2, 0])) s).gen .a .z1).countdown = some 1000 ∧
      said (after (.sourceSelect (ask 1 1 [2, 0])) s) = [0, 2] := by decide +kernel

theorem test_source_select_stops :
    ((after (.sourceSelect (ask 1 1 [2, 1])) (running .z1 joined)).gen .a .z1).run = .stopped := by decide +kernel

theorem test_manual_stroke :
    let s := genA .z1 (fun g => { g with configured := true }) joined
    ((after (.manualStroke (ask 1 1 [2])) s).gen .a .z1).phase = .active ∧
      code (after (.manualStroke (ask 1 1 [2])) (after (.manualStroke (ask 1 1 [2])) s)) = some .busy := by
  decide +kernel

/-- 6.9: FAULT_CLEAR of the one generator in FAULT returns the line, and being MANUAL the generator does not start. -/
theorem test_fault_clear :
    let s := genA .z2 (fun g => { g with run := .fault, consecutive := 3 }) (held ⟨false, false, true⟩ .connected)
    let t := after (.faultClear (ask 1 1 [3])) s
    (t.gen .a .z2).run = .stopped ∧ (t.gen .a .z2).consecutive = 0 ∧ t.lineState .a = .connected := by decide +kernel

/-- 6.9, tick 2,000: an expiry with a stroke in flight and one pending drops the third. -/
theorem test_countdown_overrun :
    let s := genA .z2 (fun g => { g with phase := .active, pending := true }) (running .z2 joined)
    ((after (.countdownExpiry .a .z2) s).gen .a .z2).overrun = 1#16 ∧
      ((after (.countdownExpiry .a .z2) s).gen .a .z2).countdown = some 1000 ∧
      (after (.countdownExpiry .a .z2) s).flagSet (.overrun .a) = true := by decide +kernel

/-- 5.5, reload 2: trim 35 on an accumulator of 35 loads P + 1 and leaves 6. -/
theorem test_countdown_trim :
    let s := genA .feed (fun g => { g with current := some 651491, trimAcc := 35 }) (running .feed joined)
    ((after (.countdownExpiry .a .feed) s).gen .a .feed).countdown = some 10180 ∧
      ((after (.countdownExpiry .a .feed) s).gen .a .feed).trimAcc = 6 := by decide +kernel

/-- A stroke of Z2 in flight for `d` ticks. -/
def inFlight (d : Nat) (s : State) : State :=
  genA .z2 (fun g => { g with phase := .active, activeSince := s.now - BitVec.ofNat 32 d }) (running .z2 s)

/-- 6.9, tick 2,300: the edge at d = 2,300 completes S1 and the pending stroke S2 starts. -/
theorem test_stroke_completes :
    let s := genA .z2 (fun g => { g with pending := true }) (inFlight 2300 joined)
    let t := after (.strokeCompleteEdge .a .z2 .rising) s
    (t.gen .a .z2).completed = 1#32 ∧ (t.gen .a .z2).phase = .active ∧ (t.gen .a .z2).activeSince = s.now ∧
      (t.gen .a .z2).lastDuration = some 2300 := by decide +kernel

/-- 6.9, tick 5,020: the third fault in a row jams the drive, and the line enters HOLD with JAM. -/
theorem test_stroke_early_jams :
    let s := genA .z2 (fun g => { g with consecutive := 2 }) (inFlight 20 joined)
    let t := after (.strokeCompleteEdge .a .z2 .rising) s
    (t.gen .a .z2).run = .fault ∧ (t.gen .a .z2).early = 1#16 ∧ (t.line .a).reasons = ⟨false, false, true⟩ ∧
      t.flagSet (.jam .a) = true := by decide +kernel

/-- 6.9, tick 4,800: stroke_max lapses. -/
theorem test_stroke_late : ((after (.strokeMaxLapse .a .z2) (inFlight 2500 joined)).gen .a .z2).late = 1#16 ∧
    ((after (.strokeMaxLapse .a .z2) (inFlight 2499 joined)).gen .a .z2).late = 0#16 := by decide +kernel

/-- 6.5, tick 4,179: a period not below the countdown waits; at tick 200 a shorter one is taken at once. -/
theorem test_period_handed :
    let g : GenRecord := { GenRecord.reset with
      run := .running, source := .auto, current := some 651491, countdown := some 6000, trimAcc := 35 }
    (g.hand (some 620480)).buffer = .period 620480 ∧ (g.hand (some 620480)).countdown = some 6000 ∧
      (({ g with countdown := some 9979 }).hand (some 620480)).countdown = some 9695 := by decide +kernel

/-- R113: a pulse completes after pulse_width ticks, 20 by default. -/
theorem test_pulse_complete :
    let s := genA .nox (fun g => { g with phase := .active, activeSince := day.now - 20#32 }) joined
    ((after (.pulseComplete .a .nox) s).gen .a .nox).blockPulses = 1 ∧
      ((after (.pulseComplete .a .nox) s).gen .a .nox).phase = .rest := by decide +kernel

/-- R114, R27: only a sensing counter counts. -/
theorem test_steam_pulse :
    let s := { joined with counters := joined.counters.set .a ⟨true, .rising, 65535, 7, 9#32⟩ }
    ((after (.steamPulse .a .rising) s).counters.get .a) = ⟨true, .rising, 65535, 8, 10#32⟩ ∧
      (after (.steamPulse .b .rising) s).counters = s.counters := by decide +kernel

/-! ### The turbine controller -/

/-- R17: pressure and rise rate are clamped. -/
theorem test_header_state :
    (after (.headerState (tell 4 [0x4E, 0x21, 0xF8, 0x2F])) day).registry.header = ⟨20000, -2000, 70000#32, false⟩ := by
  decide +kernel

/-- R18: 500 ticks without a report. -/
theorem test_header_stale :
    let s := { day with time := { day.time with tick := 70500#32 } }
    (after .headerStale s).registry.header.stale = true ∧ (after .headerStale day).registry.header.stale = false := by
  decide +kernel

/-- 4.12, step 5: a limit of 1300 on the grid lifts the ceiling to 1300. -/
theorem test_turbine_state : (after (.turbineState (ask 4 0 [2, 0x05, 0x14])) day).sched.ceiling = 1300 ∧
    (after (.turbineState (ask 4 0 [4, 0, 0])) day).sched = day.sched := by decide +kernel

/-- R66. -/
theorem test_turbine_silent :
    let s := { day with time := { day.time with tick := 500#32 } }
    (after .turbineSilent s).sched.turbine.silence = .silent := by decide +kernel

theorem test_turbine_lost :
    let s := { day with sched := { day.sched with ceiling := 1200, turbine := ⟨.onGrid, 1200, 0#32, .silent⟩ } }
    (after .turbineLost s).sched.ceiling = 0 ∧ (after .turbineLost s).sched.turbine.silence = .lost := by
  decide +kernel

/-- 4.10. -/
theorem test_lookups : charLookup .reset 280 = 1154 ∧ invLookup .reset 1154 = 280 ∧ charLookup .reset 223 = 937 ∧
    invLookup .reset 940 = 223 ∧ charLookup .reset 600 = 1800 ∧ invLookup .reset 200 = 0 := by decide +kernel

/-! ### Allocation -/

/-- The plant of 2.10: all three lines CONNECTED in POWER_LED, C = 1400 and E_r = 280, line B throttled to 900. -/
def plant (aux : Nat) : State :=
  let cfg (lo hi : Nat) : LineConfig := { LineConfig.reset with sMin := lo, sMax := hi }
  { day with
    registry := { day.registry with lines := .all { LineRecord.reset with state := .connected } }
    config := { day.config with line := ⟨cfg 250 450, cfg 250 450, { cfg 200 400 with sNom := 300 }⟩ }
    monitor := day.monitor.set .b { day.monitor.b with throttle := 900 }
    alloc := { day.alloc with aux := aux }
    sched := { day.sched with
      mode := .powerLed, ceiling := 1400, ramped := 280, handed := 1154, turbine := ⟨.onGrid, 1400, 70000#32, .reporting⟩
      active := some ⟨⟨0, 600, 280, 25, none⟩, none⟩ } }

/-- 2.10: the share case, and the second leftover unit by letter order. -/
theorem test_division_share : (plant 60).divide (.all true) = ⟨⟨435, 394, 385⟩, 1154, 0, 60, false⟩ ∧
    (plant 61).divide (.all true) = ⟨⟨436, 394, 385⟩, 1154, 0, 61, false⟩ := by decide +kernel

/-- 2.11, step 1: line C at 800 makes the limit case. -/
theorem test_division_limit :
    ({ plant 60 with monitor := (plant 60).monitor.set .c { (plant 60).monitor.c with throttle := 800 } }).divide
      (.all true) = ⟨⟨450, 405, 320⟩, 1115, 0, 60, true⟩ := by decide +kernel

theorem test_aux_set : said (after (.auxSet (ask 6 0 [0, 60])) (plant 0)) = [0, 60, 0, 60, 0, 1] ∧
    (after (.auxSet (ask 6 0 [0, 60])) (plant 0)).alloc.record.assigned = ⟨435, 394, 385⟩ := by decide +kernel

/-- 4.12, step 1: at 14:00 a block with target 300 and ramp limit 25 takes over, and E_r steps from 223 to 248. -/
theorem test_minute_event :
    let s := plant 60
    let s := { s with
      monitor := .all .reset
      sched := { s.sched with
        mode := .steamLed, ceiling := 1200, ramped := 223, turbine := ⟨.onGrid, 1200, 70000#32, .reporting⟩
        active := none, queue := [⟨0, 840, 300, 25, none⟩] } }
    let t := after .minuteEvent (atTime 840 0 false true s)
    t.sched.mode = .powerLed ∧ t.sched.ramped = 248 ∧ t.alloc.record.target = 1032 ∧ t.sched.queue = [] := by
  decide +kernel

/-- 4.12, step 3: the step to 298 hands 1222, the ceiling 1200 pulls E_r back to 292, and DISPATCH_READ shows both. -/
theorem test_dispatch_read_pulled_back :
    let s := plant 60
    let s := { s with
      monitor := .all .reset
      sched := { s.sched with
        ceiling := 1200, ramped := 273, turbine := ⟨.onGrid, 1200, 70000#32, .reporting⟩
        active := some ⟨⟨0, 840, 300, 25, none⟩, none⟩ } }
    let t := after .minuteEvent (atTime 842 0 false true s)
    t.alloc.record.target = 1200 ∧ t.sched.ramped = 292 ∧
      ((said (after (.dispatchRead (ask 4 0 [])) t)).drop 19).take 4 = [1, 36, 4, 198] := by decide +kernel

/-- 4.12, step 5: the ceiling rises to 1300 and the notice hands 1199, E_r standing at 292. -/
theorem test_ceiling_hands_demand :
    let s := plant 60
    let s := { s with
      monitor := .all .reset
      sched := { s.sched with
        ceiling := 1200, ramped := 292, handed := 1230, turbine := ⟨.onGrid, 1200, 70000#32, .reporting⟩ } }
    let t := after (.turbineState (ask 4 0 [2, 0x05, 0x14])) s
    t.alloc.record.target = 1199 ∧ t.sched.ceiling = 1300 ∧
      ((said (after (.dispatchRead (ask 4 0 [])) t)).drop 19).take 4 = [1, 36, 4, 175] := by decide +kernel

/-! ### Cleaning -/

/-- 7.3.1: 420 at an O2 of 13.50 % is 560 at 11 %. -/
theorem test_sample_normalised :
    let t := after (.sample (ask 5 1 [0x05, 0x46, 0x01, 0xA4, 0, 0, 0, 0, 0, 0, 0, 0, 0, 0, 0x41])) joined
    (t.ledger.get .a).store = some ⟨1350, ⟨some 560, none, none, none, none, none⟩, false⟩ ∧ said t = [1, 0, 0] := by
  decide +kernel

/-- 7.3.1: at an O2 of 2000 the whole sample is invalid. -/
theorem test_sample_invalid :
    let t := after (.sample (ask 5 1 [0x07, 0xD0, 0x01, 0xA4, 0, 0, 0, 0, 0, 0, 0, 0, 0, 0, 0x7F])) joined
    (t.ledger.get .a).store.map StoredSample.invalid = some true := by decide +kernel

/-- The line of 9.8 before step 6: reference feed 14,243 and the ACID channel's pulse_g 50. -/
def dosed : State :=
  { joined with
    feed := joined.feed.set .a { joined.feed.a with reference := some 14243 }
    config := { joined.config with dosing := (joined.config.dosing.set .a
      { joined.config.dosing.a with acid := { joined.config.dosing.a.acid with pulseG := 50 } }) } }

/-- 9.8, step 6: 120,000 g/h is held at rate_max. -/
theorem test_dose_override :
    let t := after (.doseOverride (ask 5 1 [2, 0x01, 0xD4, 0xC0])) dosed
    code t = some .acceptedClamped ∧ (t.dose .a .acid).rate = 100000 ∧ (t.dose .a .acid).period = some 11520 ∧
      t.flagSet .dosingLimit = true := by decide +kernel

/-- 9.8: FF 28,486 at a trim of 30 is 29,340 g/h, at a period of 19,631. -/
theorem test_dose_auto :
    let s := dosed.setDose .a .nox { dosed.dose .a .nox with trim := 30, mode := .override }
    let t := after (.doseAuto (ask 5 1 [1])) s
    (t.dose .a .nox).rate = 29340 ∧ (t.dose .a .nox).period = some 19631 := by decide +kernel

/-! ### Closes -/

/-- 7.5.1: a slot without a sample. -/
theorem test_slot_close : (after .slotClose (atTime 727 20 true false joined)).flagSet .sampleMissing = true ∧
    ((after .slotClose (atTime 727 20 true false joined)).ledger.get .a).nOp = 1 := by decide +kernel

/-- Line A of 5.8 and 7.5.1 at the close of 12:10: 17 operating slots with CO at 15 of 1,725 and NOX at 12, the ring of
feed mass and 660 steam pulses. -/
def blockEnd : State :=
  let r := joined.ledger.get .a
  let s := joined.setLedger .a { r with
    nOp := 17
    channels := { r.channels with
      co := { r.channels.co with sum := 1725, count := 15 }
      nox := { r.channels.nox with sum := 19500, count := 12 } } }
  let s := s.setFeed .a { s.feed.get .a with strokes := 6, mass := 2400, massPrev := 2400, massPrev2 := 2000 }
  atTime 730 0 true false { s with counters := s.counters.set .a ⟨true, .rising, 0, 660, 660#32⟩ }

/-- 7.5.1: 15 of 18 slots make a block of 115 valid, 12 of 18 do not; 5.8: the estimate falls to 9932. -/
theorem test_block_close :
    let t := after .slotClose blockEnd
    ((t.ledger.get .a).channels.get .co).block0 = ⟨.valid 115, 18, 15⟩ ∧
      ((t.ledger.get .a).channels.get .nox).block0 = ⟨.invalid, 18, 12⟩ ∧
      (t.feed.get .a).lhv = 9932 ∧ (t.feed.get .a).blockValue = some 9725 ∧ (t.feed.get .a).massPrev = 2400 := by
  decide +kernel

/-- Line A of 8.8 at the close of 12:30: TOC blocks 150, 190 and a running one of mean 330, the throttle at 950 and the
budget at 97. -/
def periodEnd : State :=
  let r := joined.ledger.get .a
  let s := joined.setLedger .a { r with
    nOp := 59
    channels := { r.channels with
      toc := { r.channels.toc with
        sum := 330 * 59, count := 59, block0 := ⟨.valid 150, 60, 60⟩, block1 := ⟨.valid 190, 60, 60⟩ } } }
  atTime 750 0 true false (s.setMonitor .a { s.monitor.get .a with throttle := 950, budgetUsed := 97 })

/-- 8.8, 12:30: the period exceeds, the episode opens, the throttle is capped at 800 and the budget stands at 98. -/
theorem test_period_close :
    let t := after .slotClose periodEnd
    (t.monitor.get .a).episodeOpen = true ∧ (t.monitor.get .a).throttle = 800 ∧ (t.monitor.get .a).budgetUsed = 98 ∧
      t.flagSet .episodeOpened = true ∧
      ((t.ledger.get .a).channels.get .toc).history.head? = some ⟨720, false, .valid 223, 3, true, true⟩ := by
  decide +kernel

/-! ### The supervisory station -/

/-- 3.7, step 1: a backward trim moves the hold alone. -/
theorem test_clock_trim_back :
    let s := { joined with time := { joined.time with clock := ⟨740, 5, 30, true, 0⟩ } }
    let t := after (.clockSet (ask 6 0 [0x00, 0xAD, 0x66])) s
    t.time.clock = ⟨740, 5, 30, true, 1530⟩ ∧
      code (after (.clockSet (ask 6 0 [0x00, 0xAD, 0x52])) { t with bus := s.bus }) = some .badState := by decide +kernel

/-- 3.6: a forward trim over a slot boundary at 12:10:15. -/
theorem test_clock_trim_forward :
    let s := { joined with time := { joined.time with clock := ⟨729, 52, 40, true, 0⟩ } }
    let t := after (.clockSet (ask 6 0 [0x00, 0xAB, 0x27])) s
    t.time.clock = ⟨730, 15, 0, true, 0⟩ ∧ ((t.ledger.get .a).channels.get .co).block0.status = .idle ∧
      (t.ledger.get .a).nOp = 1 := by decide +kernel

theorem test_hold_end :
    let s := { day with time := { day.time with clock := { day.time.clock with hold := 1 } } }
    (after .holdEnd s).time.clock.hold = 0 := by decide +kernel

/-- R60: a start not later than the present is LATE. -/
theorem test_schedule_add : code (after (.scheduleAdd (ask 6 0 [0, 2, 0xD9, 0, 100, 10, 255, 255])) day) = some .late ∧
    (after (.scheduleAdd (ask 6 0 [0, 2, 0xDA, 0, 100, 10, 255, 255])) day).sched.queue =
      [⟨0, 730, 100, 10, none⟩] := by decide +kernel

theorem test_schedule_withdraw :
    let s := { day with sched := { day.sched with queue := [⟨0, 730, 100, 10, none⟩] } }
    (after (.scheduleWithdraw (ask 6 0 [0, 2, 0xDA])) s).sched.queue = [] ∧
      code (after (.scheduleWithdraw (ask 6 0 [255, 0, 0])) s) = some .notFound := by decide +kernel

/-- R172: a value in range is taken and the group is marked written; an unknown number is refused with its number. -/
theorem test_config_write :
    (after (.configWrite (ask 6 0 [1, 0, 0, 4, 0, 0, 200])) day).config.plant.connectTimeout = 200 ∧
    said (after (.configWrite (ask 6 0 [1, 0, 0, 12, 0, 0, 1])) day) = [12] := by decide +kernel

/-- R174: parameter 11 of PLANT, o_ref 1100, and the first of those after it. -/
theorem test_config_read :
    (said (after (.configRead (ask 6 0 [1, 0, 0, 11])) day)).take 6 = [2, 11, 0, 0x04, 0x4C, 16] := by decide +kernel

theorem test_budget_load :
    said (after (.budgetLoad (ask 6 1 [0, 97, 1])) day) = [0, 97, 0, 100, 1, 1] ∧
    code (after (.budgetLoad (ask 6 1 [0, 101, 0])) day) = some .badValue := by decide +kernel

theorem test_lockout_clear :
    said (after (.lockoutClear (ask 6 1 [])) (day.setMonitor .a { day.monitor.a with lockout := true })) =
      [0, 0, 0] := by decide +kernel

/-! ### Reads -/

theorem test_line_read : (said (after (.lineRead (ask 1 1 [0])) joined)).take 3 = [4, 0, 255] ∧
    code (after (.lineRead (ask 1 1 [1])) joined) = some .badState := by decide +kernel

theorem test_generator_read :
    (said (after (.generatorRead (ask 1 0 [1, 1, 0])) (running .feed joined))).take 6 = [2, 0, 1, 0, 0xFA, 0] := by
  decide +kernel

theorem test_dispatch_read : (said (after (.dispatchRead (ask 4 0 [])) (plant 60))).drop 18 =
    [1, 1, 24, 4, 130, 5, 120, 2, 5, 120, 2, 0, 1, 2, 88, 1, 24, 25, 255, 255, 255, 255, 0, 2, 217, 20, 0, 1, 0, 0] := by
  decide +kernel

theorem test_ledger_read : (said (after (.ledgerRead (ask 5 1 [1, 0, 0])) blockEnd)).take 6 = [17, 0, 6, 189, 15, 0] := by
  decide +kernel

theorem test_dosing_read : (said (after (.dosingRead (ask 5 1 [0])) dosed)).take 4 = [4, 0x37, 0xA3, 0] := by
  decide +kernel

theorem test_schedule_read :
    let s := { day with sched := { day.sched with queue := [⟨0, 730, 100, 10, none⟩] } }
    (said (after (.scheduleRead (ask 6 0 [0, 0])) s)).drop 13 = [0, 2, 0xDA, 0, 100, 10, 255, 255] := by decide +kernel

/-! ### Flags -/

/-- R178: RESTARTED is cleared, the holding TURBINE condition stays. -/
theorem test_flags_read : said (after (.flagsRead (ask 4 0 [])) up) = [0, 0x11, 0, 0x10, 0xFF, 0xFE, 0, 0] := by
  decide +kernel

/-- R179: positions outside the catalogue read back as masked. -/
theorem test_mask_write : (said (after (.maskWrite (ask 1 0 [0, 0])) up)).take 2 = [0xFC, 0x00] := by decide +kernel

/-- R180, R182: in PULSE the line is released; a flag set from clear then starts a pulse. -/
theorem test_notify_mode :
    let t := after (.notifyMode (ask 6 0 [1, 0])) { up with
      flags := { up.flags with supervisory := { up.flags.supervisory with mask := 0 } } }
    t.notifyHigh .supervisory = true ∧ (after .busGapDiscard t).notifyHigh .supervisory = false := by decide +kernel

theorem test_notify_pulse_end :
    let s := { up with flags := { up.flags with turbine := { up.flags.turbine with mode := .pulse, pulseLeft := 400 } } }
    s.notifyHigh .turbine = false ∧ (after (.notifyPulseEnd .turbine) s).notifyHigh .turbine = true := by decide +kernel

/-! ### The queue and the tick -/

theorem test_step_first : step { up with pending := [.noiseBurst, .pinReset] } =
    .next { up with pending := [.pinReset] } := by rfl

/-- 3.8: at 23:59:59.99 one tick reaches midnight, and the events are queued. -/
theorem test_tick_midnight :
    ∀ t, step { up with time := { up.time with clock := ⟨1439, 59, 99, true, 0⟩ } } = .next t →
      t.time.clock = ⟨0, 0, 0, true, 0⟩ ∧ t.time.tick = 1#32 ∧ Instr.minuteEvent ∈ t.pending := by
  intro t h; cases h; decide +kernel

/-! ### Witnesses -/

/-- Line A of a state is the one line that is neither OFFLINE nor waiting: its queue and slot agree with the states. -/
theorem connect_sound {s : State} (hq : s.registry.queue = []) (hs : s.registry.slot = none)
    (h : ∀ l, s.lineState l ≠ .connectPending ∧ s.lineState l ≠ .connecting) : ConnectSound s := by
  refine ⟨by rw [hq]; exact List.nodup_nil, fun l => ?_, fun l => ?_⟩
  · simp [hq, (h l).1]
  · simp [hs, (h l).2]

theorem clock_sound {s : State} (h : s.time.clock.minute < 1440 ∧ s.time.clock.second < 60 ∧
    s.time.clock.hundredth < 100 ∧ s.time.clock.hold ≤ 3000) : ClockSound s := h

theorem registry_sound_joined : RegistrySound joined :=
  ⟨connect_sound rfl rfl (by intro l; cases l <;> decide +kernel), by intro l; cases l <;> decide +kernel⟩

theorem registry_sound_connecting : ConnectSound connecting :=
  ⟨by decide +kernel, by intro l; cases l <;> decide +kernel, by intro l; cases l <;> decide +kernel⟩

/-- `day` with a number of hold ticks left and the FEED and Z1 generators of line A about to expire and to count. -/
def ticking (hold : Nat) : State :=
  let s := running .feed (genA .z1 (fun g => { g with run := .running, source := .auto, countdown := some 2 }) joined)
  { s with time := { s.time with clock := { s.time.clock with hold := hold } } }

theorem witness_IdleTick : (ticking 0).pending = [] ∧ (ticking 0).pins.resetLow = false ∧
    (ticking 0).time.slotDue = false ∧ (ticking 0).time.minuteDue = false ∧ ClockSound (ticking 0) ∧
    ClockSound (ticking 1) ∧ ClockSound (ticking 2) ∧ ClockSound (ticking 3000) ∧
    ((ticking 0).gen .a .feed).countdown = some 1 ∧ ((ticking 0).gen .a .z1).countdown = some 2 ∧
    ((ticking 0).gen .a .z2).run = .stopped :=
  ⟨rfl, rfl, rfl, rfl, clock_sound (by decide +kernel), clock_sound (by decide +kernel),
    clock_sound (by decide +kernel), clock_sound (by decide +kernel), by decide +kernel⟩

/-- Line A with a FEED stroke and a NOX pulse in flight, the connect slot held, and everything timed one tick before it falls
due: 2500, 20, 500, 3000 and 18000 ticks. -/
def lapsing (turbine : Nat) (x : Silence) : State :=
  let since (n : Nat) : Tick := 70000#32 - BitVec.ofNat 32 (n - 1)
  let s := genA .nox (fun g => { g with phase := .active, activeSince := since 20 })
    (genA .feed (fun g => { g with phase := .active, activeSince := since 2500 }) joined)
  { s with
    registry := { s.registry with
      header := { s.registry.header with arrival := since 500 }, slot := some ⟨.b, since 18000, 18000⟩ }
    sched := { s.sched with turbine := ⟨.onGrid, 900, since turbine, x⟩ } }

/-- R18, R25, R66, R106, R113: with the next tick each is due, and its event is queued. -/
theorem test_idle_tick_queues :
    (∃ t, step (lapsing 500 .reporting) = .next t ∧ t.pending.contains (.strokeMaxLapse .a .feed) = true ∧
      t.pending.contains (.pulseComplete .a .nox) = true ∧ t.pending.contains .headerStale = true ∧
      t.pending.contains .turbineSilent = true ∧ t.pending.contains .turbineLost = false ∧
      t.pending.contains .connectTimeout = true) ∧
    ∃ t, step (lapsing 3000 .silent) = .next t ∧ t.pending.contains .turbineLost = true ∧
      t.pending.contains .turbineSilent = false :=
  ⟨⟨_, rfl, by decide +kernel⟩, ⟨_, rfl, by decide +kernel⟩⟩

theorem witness_ResetRelease : up.pins.resetLow = false ∧ State.reset.pins.resetLow = true ∧ ResetHeld State.reset :=
  ⟨rfl, rfl, fun _ => rfl⟩

theorem witness_CheckByteDetects : (0x00#8 : Byte) ≠ 0x80#8 := by decide

theorem witness_TelegramRoundTrip :
    let f := ask 4 0 []
    let long : Frame := ⟨6#8, 8#8, 0#8, List.replicate 48 0#8⟩
    let g := tell 6 [0, 0, 0]
    (f.wellFormed = true ∧ f.src ≠ 8#8 ∧ knownSource f.src = true ∧ f.dst = 8#8) ∧
      (long.wellFormed = true ∧ long.src ≠ 8#8 ∧ knownSource long.src = true ∧ long.dst = 8#8) ∧
      (g.wellFormed = true ∧ g.src ≠ 8#8 ∧ g.dst = 0#8 ∧ broadcastTaken .clockSet g.src = true) ∧
      0xBF#8 ≠ checkByte (telegramBody 0x50#8 f) ∧ 5 < (telegramBytes 0x50#8 f).length := by decide +kernel

/-- `up` with line C not fitted. -/
def twoLines : State :=
  up.setLine .c { up.line .c with fitted := false }

theorem witness_PortRefusals : (up.pins.resetLow = false ∧ up.bus.receives = true ∧ twoLines.bus.receives = true) ∧
    ((ask 7 1 []).dst = up.bus.address ∧ stationOfNumber (ask 7 1 []).src.toNat = none ∧
      stationOfNumber (ask 0 1 []).src.toNat = none) ∧
    (stationOfNumber (ask 4 1 []).src.toNat = some .turbine ∧ granted .lineStart .turbine = false) ∧
    (granted .lineStart (.lineCtl .a) = true ∧ lengthAllowed .lineStart (ask 1 1 [0]).payload.length = false ∧
      lengthAllowed .lineStart (ask 1 1 []).payload.length = true) ∧
    (lineNamed .lineStart (ask 1 0 []) = some 0 ∧ lineOfNumber 0 = none ∧
      lineNamed .lineStart (ask 1 4 []) = some 4 ∧ lineOfNumber 4 = none) ∧
    (lineNamed .lineStart (ask 1 2 []) = some 2 ∧ lineOfNumber 2 = some .b ∧ Line.b ≠ .a) ∧
    (granted .lockoutClear .supervisory = true ∧ lineNamed .lockoutClear (ask 6 3 []) = some 3 ∧
      lineOfNumber 3 = some .c ∧ twoLines.fitted .c = false) := by decide +kernel

theorem witness_UnknownAndIgnored : (up.pins.resetLow = false ∧ up.bus.receives = true) ∧
    ((ask 7 0 []).dst = up.bus.address ∧ (ask 7 0 []).src ≠ up.bus.address ∧
      stationOfNumber (ask 7 0 []).src.toNat = none) ∧
    (stationOfNumber (ask 4 0 []).src.toNat = some .turbine ∧ kindOfCode 0x99#8 = none) ∧
    ((ask 8 0 []).src = up.bus.address ∧ (tell 5 []).dst ≠ up.bus.address) ∧
    (∀ k : Kind, 0x50#8 = k.code → broadcastTaken k (tell 5 []).src = false) := by
  refine ⟨by decide +kernel, by decide +kernel, by decide +kernel, by decide +kernel, fun k _ => ?_⟩
  cases k <;> decide +kernel

/-- `up` with the receiver in a state. -/
def receiving (r : Receiver) (idle : Nat) : State :=
  { up with bus := { up.bus with receiver := r, idleCount := idle } }

theorem witness_Discards : up.pins.resetLow = false ∧
    (Discard.badStop.wellFormed = true ∧ (Discard.badLength 49#8).wellFormed = true ∧
      (Discard.badCheck [4#8, 8#8, 0x50#8, 0#8, 0#8] 0#8).wellFormed = true ∧ up.bus.receives = true) ∧
    (receiving .receiving 0).bus.receives = true ∧ up.bus.receiver ≠ .recovering ∧
    (receiving .recovering 5).bus.receiver = .recovering := by decide +kernel

theorem witness_AnswerWindow :
    let s := after (.flagsRead (ask 4 0 [])) up
    s.bus.receiver = .answering ∧ s.bus.answer.isSome = true ∧ s.bus.sending = false ∧
      (after .answerSend s).bus.receiver = .answering ∧ (after .answerSend s).bus.sending = true := by decide +kernel

theorem witness_BusRest : up.pins.resetLow = false ∧ up.bus.sending = false ∧
    (receiving .idle 19).bus.receiver = .idle ∧ (receiving .idle 19).bus.idleCount < 20 ∧
    (receiving .idle 19).bus.idleCount ≠ 20 ∧ (receiving .recovering 20).bus.receiver = .recovering ∧
    (ask 4 0 []).payload.length ≤ 48 := by decide +kernel

theorem witness_LineStart : Reaches .lineStart (ask 1 1 []) (.lineCtl .a) .a ready ∧ ready.lineState .a = .offline ∧
    ready.configured .a = true ∧ ready.time.clock.valid = true ∧ (ready.monitor.get .a).lockout = false ∧
    ready.anyFault .a = false :=
  ⟨meets (by decide +kernel), by decide +kernel⟩

theorem witness_LineRequestsRefused :
    (Reaches .lineStart (ask 1 1 []) (.lineCtl .a) .a joined ∧ joined.lineState .a ≠ .offline) ∧
    (Reaches .lineStart (ask 1 1 []) (.lineCtl .a) .a day ∧ day.lineState .a = .offline ∧
      day.configured .a = false) ∧
    (Reaches .lineStart (ask 1 1 []) (.lineCtl .a) .a ready ∧ ready.configured .a = true ∧
      (ready.setMonitor .a { ready.monitor.a with lockout := true }).monitor.a.lockout = true ∧
      (genA .z1 (fun g => { g with run := .fault }) ready).anyFault .a = true) ∧
    (Reaches .connectRequest (ask 1 1 []) (.lineCtl .a) .a day ∧ Reaches .connectCancel (ask 1 1 []) (.lineCtl .a) .a day ∧
      Reaches .connectDone (ask 1 1 []) (.lineCtl .a) .a day ∧ Reaches .feedHold (ask 1 1 []) (.lineCtl .a) .a day ∧
      Reaches .feedRelease (ask 1 1 []) (.lineCtl .a) .a day ∧ Reaches .lineStop (ask 1 1 []) (.lineCtl .a) .a day ∧
      Reaches .burnoutDone (ask 1 1 []) (.lineCtl .a) .a day ∧ Reaches .lineTrip (ask 1 1 []) (.lineCtl .a) .a day ∧
      Reaches .tripReset (ask 1 1 []) (.lineCtl .a) .a day) ∧
    (Reaches .feedRelease (ask 1 1 []) (.lineCtl .a) .a (held ⟨false, true, false⟩ .connected) ∧
      Reaches .lineTrip (ask 1 1 []) (.lineCtl .a) .a (lineA .tripped day) ∧
      Reaches .startupFeed (ask 1 1 [0, 1]) (.lineCtl .a) .a (lineA .tripped day) ∧
      Reaches .startupFeed (ask 1 1 [0, 1]) (.lineCtl .a) .a (lineA .burnout day)) := by
  refine ⟨⟨meets ?_, ?_⟩, ⟨meets ?_, ?_⟩, ⟨meets ?_, ?_⟩, ⟨meets ?_, meets ?_, meets ?_, meets ?_, meets ?_, meets ?_,
    meets ?_, meets ?_, meets ?_⟩, meets ?_, meets ?_, meets ?_, meets ?_⟩ <;> decide +kernel

theorem witness_ConnectQueue :
    (Reaches .connectRequest (ask 1 1 []) (.lineCtl .a) .a (lineA .firingUp day) ∧
      (lineA .firingUp day).registry.slot = none ∧ (lineA .firingUp day).headerOpen = true ∧
      (lineA .firingUp day).registry.queue = []) ∧
    (Reaches .connectRequest (ask 1 1 []) (.lineCtl .a) .a (lineA .firingUp up) ∧
      (lineA .firingUp up).headerOpen = false) ∧
    (Reaches .connectRequest (ask 3 3 []) (.lineCtl .c) .c
        (connecting.setLine .c { connecting.line .c with state := .firingUp }) ∧
      (connecting.setLine .c { connecting.line .c with state := .firingUp }).registry.slot ≠ none) ∧
    (Reaches .connectCancel (ask 2 2 []) (.lineCtl .b) .b connecting ∧ connecting.lineState .b = .connectPending) :=
  ⟨⟨meets (by decide +kernel), by decide +kernel⟩, ⟨meets (by decide +kernel), by decide +kernel⟩,
    ⟨meets (by decide +kernel), by decide +kernel⟩, meets (by decide +kernel), by decide +kernel⟩

/-- `connecting` some ticks after the grant. -/
def later (n : Nat) : State :=
  { connecting with time := { connecting.time with tick := 70000#32 + BitVec.ofNat 32 n } }

theorem connect_sound_later (n : Nat) : ConnectSound (later n) := registry_sound_connecting

theorem witness_ConnectEnds : ConnectSound connecting ∧ connecting.lineState .a = .connecting ∧
    Reaches .connectDone (ask 1 1 []) (.lineCtl .a) .a connecting ∧ ConnectSound (later 18000) ∧
    (later 18000).registry.slot = some ⟨.a, 70000#32, 18000⟩ ∧ 18000 ≤ (later 18000).elapsed 70000#32 ∧
    (later 17999).elapsed 70000#32 < 18000 :=
  ⟨registry_sound_connecting, by decide +kernel, meets (by decide +kernel), connect_sound_later _, by decide +kernel⟩

theorem witness_HoldAndRelease :
    (Reaches .feedHold (ask 1 1 []) (.lineCtl .a) .a (lineA .firingUp day) ∧
      (lineA .firingUp day).lineState .a = .firingUp) ∧
    (Reaches .feedHold (ask 1 1 []) (.lineCtl .a) .a joined ∧ joined.lineState .a = .connected) ∧
    (Reaches .feedHold (ask 1 1 []) (.lineCtl .a) .a (held ⟨false, true, false⟩ .connected) ∧
      (held ⟨false, true, false⟩ .connected).lineState .a = .hold) ∧
    (Reaches .feedRelease (ask 1 1 []) (.lineCtl .a) .a (held ⟨true, false, true⟩ .firingUp) ∧
      (held ⟨true, false, true⟩ .firingUp).lineState .a = .hold) ∧
    Reaches .feedRelease (ask 1 1 []) (.lineCtl .a) .a (held ⟨true, false, false⟩ .firingUp) ∧
    Reaches .feedRelease (ask 1 1 []) (.lineCtl .a) .a (held ⟨true, false, false⟩ .connected) := by
  refine ⟨⟨meets ?_, ?_⟩, ⟨meets ?_, ?_⟩, ⟨meets ?_, ?_⟩, ⟨meets ?_, ?_⟩, meets ?_, meets ?_⟩ <;> decide +kernel

/-- Line A of `connecting`, of a line waiting, of one CONNECTED and of one in HOLD may be stopped or tripped. -/
theorem witness_StopAndTrip : RegistrySound joined ∧ Reaches .lineStop (ask 1 1 []) (.lineCtl .a) .a joined ∧
    (joined.lineState .a).feeding = true ∧ Reaches .lineTrip (ask 1 1 []) (.lineCtl .a) .a joined ∧
    joined.lineState .a ≠ .offline ∧ joined.lineState .a ≠ .tripped ∧ RegistrySound connecting ∧
    Reaches .lineStop (ask 1 1 []) (.lineCtl .a) .a connecting ∧
    Reaches .lineTrip (ask 2 2 []) (.lineCtl .b) .b connecting ∧
    RegistrySound (held ⟨true, false, false⟩ .connected) ∧
    Reaches .lineStop (ask 1 1 []) (.lineCtl .a) .a (held ⟨true, false, false⟩ .connected) :=
  ⟨registry_sound_joined, meets (by decide +kernel), by decide +kernel, meets (by decide +kernel), by decide +kernel,
    by decide +kernel, ⟨registry_sound_connecting, by intro l; cases l <;> decide +kernel⟩, meets (by decide +kernel),
    meets (by decide +kernel),
    ⟨connect_sound rfl rfl (by intro l; cases l <;> decide +kernel), by intro l; cases l <;> decide +kernel⟩,
    meets (by decide +kernel)⟩

theorem witness_EnterOffline :
    (Reaches .burnoutDone (ask 1 1 []) (.lineCtl .a) .a (lineA .burnout day) ∧
      (lineA .burnout day).lineState .a = .burnout) ∧
    (Reaches .tripReset (ask 1 1 []) (.lineCtl .a) .a (lineA .tripped day) ∧
      (lineA .tripped day).lineState .a = .tripped) :=
  ⟨⟨meets (by decide +kernel), by decide +kernel⟩, meets (by decide +kernel), by decide +kernel⟩

/-- Every line state in which STARTUP_FEED is taken; the most that is not clamped by default is 8000. -/
theorem witness_StartupFeed :
    (Reaches .startupFeed (ask 1 1 [0x1F, 0x40]) (.lineCtl .a) .a day ∧
      Reaches .startupFeed (ask 1 1 [0x1F, 0x41]) (.lineCtl .a) .a (lineA .firingUp day) ∧
      Reaches .startupFeed (ask 1 1 [0, 0]) (.lineCtl .a) .a joined ∧
      Reaches .startupFeed (ask 1 1 [0, 0]) (.lineCtl .a) .a (held ⟨true, false, false⟩ .firingUp)) ∧
    (day.lineState .a = .offline ∧ ((lineA .firingUp day).lineState .a).feeding = true ∧
      (joined.lineState .a).feeding = true ∧ (held ⟨true, false, false⟩ .firingUp).lineState .a = .hold) := by
  refine ⟨⟨meets ?_, meets ?_, meets ?_, meets ?_⟩, ?_⟩ <;> decide +kernel

/-- `day` after a DOSING_READ of part 0, its answer gone. -/
def snapped : State :=
  let s := after (.dosingRead (ask 5 1 [0])) day
  { s with bus := s.bus.settled 20 }

theorem witness_ReadParts :
    (Reaches .lineRead (ask 1 1 [0]) (.lineCtl .a) .a day ∧ Reaches .lineRead (ask 6 1 [2]) .supervisory .a day) ∧
    (Reaches .generatorRead (ask 1 0 [1, 7, 0]) (.lineCtl .a) .a day ∧
      Reaches .generatorRead (ask 1 0 [1, 8, 0]) (.lineCtl .a) .a day) ∧
    (Reaches .ledgerRead (ask 5 1 [6, 47, 0]) .cleaning .a day ∧
      Reaches .ledgerRead (ask 5 1 [6, 48, 0]) .cleaning .a day) ∧
    (Reaches .scheduleRead (ask 6 0 [23, 0]) .supervisory .a day ∧
      Reaches .scheduleRead (ask 6 0 [24, 0]) .supervisory .a day) ∧
    (Reaches .dosingRead (ask 5 1 [1]) .cleaning .a day ∧ day.bus.snapshots.get .cleaning = none) ∧
    (Reaches .dosingRead (ask 5 1 [1]) .cleaning .a snapped ∧
      (snapped.bus.snapshots.get .cleaning).map (fun x => (x.kind, x.names)) = some (.dosingRead, [1])) := by
  refine ⟨⟨meets ?_, meets ?_⟩, ⟨meets ?_, meets ?_⟩, ⟨meets ?_, meets ?_⟩, ⟨meets ?_, meets ?_⟩, ⟨meets ?_, ?_⟩,
    meets ?_, ?_⟩ <;> decide +kernel

theorem witness_LineReadShows : Reaches .lineRead (ask 1 1 [0]) (.lineCtl .a) .a joined ∧
    byteAt (ask 1 1 [0]).payload 0 = 0 ∧ joined.registry.slot.map ConnectSlot.line ≠ some .a ∧
    Reaches .lineRead (ask 1 1 [0]) (.lineCtl .a) .a connecting ∧
    connecting.registry.slot = some ⟨.a, 70000#32, 18000⟩ :=
  ⟨meets (by decide +kernel), by decide +kernel, by decide +kernel, meets (by decide +kernel), by decide +kernel⟩

theorem witness_DispatchReadShows : Reaches .dispatchRead (ask 4 0 []) .turbine .a (plant 60) ∧
    (plant 60).sched.mode = .powerLed ∧ (plant 60).sched.active.isSome = true ∧
    Reaches .dispatchRead (ask 6 0 []) .supervisory .a day ∧ day.sched.mode = .steamLed ∧ day.sched.active = none :=
  ⟨meets (by decide +kernel), by decide +kernel, by decide +kernel, meets (by decide +kernel), by decide +kernel⟩

theorem witness_OtherReadsShow :
    (Reaches .generatorRead (ask 1 0 [1, 1, 0]) (.lineCtl .a) .a joined ∧
      genOfNumber (byteAt (ask 1 0 [1, 1, 0]).payload 1) = some .feed) ∧
    (Reaches .generatorRead (ask 1 0 [1, 6, 0]) (.lineCtl .a) .a joined ∧
      genOfNumber (byteAt (ask 1 0 [1, 6, 0]).payload 1) = some .acid) ∧
    Reaches .generatorRead (ask 1 0 [1, 7, 0]) (.lineCtl .a) .a joined ∧
    (Reaches .ledgerRead (ask 5 1 [1, 0, 0]) .cleaning .a joined ∧
      pollutantOfCode (byteAt (ask 5 1 [1, 0, 0]).payload 0) = some .co) ∧
    Reaches .dosingRead (ask 5 1 [0]) .cleaning .a joined ∧ Reaches .scheduleRead (ask 6 0 [0, 0]) .supervisory .a joined := by
  refine ⟨⟨meets ?_, ?_⟩, ⟨meets ?_, ?_⟩, meets ?_, ⟨meets ?_, ?_⟩, meets ?_, meets ?_⟩ <;> decide +kernel

/-- Line A with a sample stored, closed blocks, a history and a last day for CO, a fault of FEED, a period waiting at Z1 and
a trim error of ACID. -/
def filled : State :=
  let co : LedgerChannel := { (joined.ledger.get .a).channels.co with
    block0 := ⟨.valid 115, 60, 55⟩
    history := [⟨720, false, .valid 147, 2, true, true⟩]
    lastDay := some ⟨.valid 130, true, 44, 2, 2, 0⟩ }
  let s := genA .z1 (fun g => { g with buffer := .period 64000 })
    (genA .feed (fun g => { g with lastFault := some ⟨.late, 720, 5, 3, true⟩ }) joined)
  (s.setLedger .a { s.ledger.get .a with
    store := some ⟨1100, ⟨some 560, none, none, none, none, none⟩, false⟩
    channels := { (s.ledger.get .a).channels with co := co } }).setDose .a .acid
      { s.dose .a .acid with lastError := some (-30) }

theorem witness_OtherReadsShow_items :
    (Reaches .generatorRead (ask 1 0 [1, 1, 0]) (.lineCtl .a) .a filled ∧
      (filled.gen .a .feed).lastFault.isSome = true ∧ asStroke .feed = some .feed ∧
      (filled.gen .a .z1).buffer = .period 64000 ∧ asStroke .acid = none) ∧
    (Reaches .ledgerRead (ask 5 1 [1, 0, 0]) .cleaning .a filled ∧
      ((filled.ledger.get .a).store.bind fun x => x.values.get .co) = some 560 ∧
      ((filled.ledger.get .a).channels.get .co).history[0]? = some ⟨720, false, .valid 147, 2, true, true⟩ ∧
      ((filled.ledger.get .a).channels.get .co).lastDay = some ⟨.valid 130, true, 44, 2, 2, 0⟩) ∧
    (Reaches .dosingRead (ask 5 1 [0]) .cleaning .a filled ∧ (filled.dose .a .acid).lastError = some (-30)) ∧
    (Reaches .scheduleRead (ask 6 0 [0, 0]) .supervisory .a (plant 60) ∧ (plant 60).sched.active.isSome = true) := by
  refine ⟨⟨meets ?_, ?_⟩, ⟨meets ?_, ?_⟩, ⟨meets ?_, ?_⟩, ⟨meets ?_, ?_⟩⟩ <;> decide +kernel

theorem witness_SourceSelect :
    (Reaches .sourceSelect (ask 1 1 [0, 0]) (.lineCtl .a) .a joined ∧
      genOfNumber (byteAt (ask 1 1 [0, 0]).payload 0) = none ∧ genOfNumber (byteAt (ask 1 1 [7, 0]).payload 0) = none) ∧
    (Reaches .sourceSelect (ask 1 1 [6, 2]) (.lineCtl .a) .a joined ∧
      genOfNumber (byteAt (ask 1 1 [6, 2]).payload 0) = some .acid ∧ 1 < byteAt (ask 1 1 [6, 2]).payload 1) ∧
    (Reaches .sourceSelect (ask 1 1 [2, 1]) (.lineCtl .a) .a (running .z1 joined) ∧
      ((running .z1 joined).gen .a .z1).source = .auto ∧ ((running .z1 joined).gen .a .z1).run ≠ .fault) ∧
    (Reaches .sourceSelect (ask 1 1 [2, 0]) (.lineCtl .a) .a joined ∧ (joined.gen .a .z1).source = .manual ∧
      (joined.lineState .a).permits .z1 = true ∧ (joined.gen .a .z1).current = none ∧
      (day.lineState .a).permits .z1 = false) ∧
    ((genA .z1 (fun g => { g with current := some 64000 }) joined).gen .a .z1).current = some 64000 := by
  refine ⟨⟨meets ?_, ?_⟩, ⟨meets ?_, ?_⟩, ⟨meets ?_, ?_⟩, ⟨meets ?_, ?_⟩, ?_⟩ <;> decide +kernel

/-- Line A CONNECTED with its FEED generator configured under source MANUAL. -/
def byHand (x : Phase) : State :=
  genA .feed (fun g => { g with configured := true, phase := x }) joined

theorem witness_ManualStroke :
    (Reaches .manualStroke (ask 1 1 [7]) (.lineCtl .a) .a joined ∧
      genOfNumber (byteAt (ask 1 1 [7]).payload 0) = none) ∧
    (Reaches .manualStroke (ask 1 1 [1]) (.lineCtl .a) .a joined ∧
      genOfNumber (byteAt (ask 1 1 [1]).payload 0) = some .feed ∧ (joined.gen .a .feed).configured = false) ∧
    (Reaches .manualStroke (ask 1 1 [1]) (.lineCtl .a) .a (running .feed joined) ∧
      ((running .feed joined).gen .a .feed).configured = true ∧ ((running .feed joined).gen .a .feed).source = .auto) ∧
    (Reaches .manualStroke (ask 1 1 [1]) (.lineCtl .a) .a (byHand .rest) ∧
      ((byHand .rest).gen .a .feed).source = .manual ∧ ((byHand .rest).gen .a .feed).run ≠ .fault ∧
      ((byHand .rest).gen .a .feed).phase = .rest) ∧
    (Reaches .manualStroke (ask 1 1 [1]) (.lineCtl .a) .a (byHand .active) ∧
      ((byHand .active).gen .a .feed).phase = .active) := by
  refine ⟨⟨meets ?_, ?_⟩, ⟨meets ?_, ?_⟩, ⟨meets ?_, ?_⟩, ⟨meets ?_, ?_⟩, meets ?_, ?_⟩ <;> decide +kernel

/-- Z2 of line A in FAULT, the line in HOLD. -/
def jammed (r : Reasons) (ret : ReturnState) : State :=
  genA .z2 (fun g => { g with run := .fault, consecutive := 3 }) (held r ret)

theorem witness_FaultClear :
    (Reaches .faultClear (ask 1 1 [0]) (.lineCtl .a) .a joined ∧
      genOfNumber (byteAt (ask 1 1 [0]).payload 0) = none) ∧
    (Reaches .faultClear (ask 1 1 [3]) (.lineCtl .a) .a joined ∧
      genOfNumber (byteAt (ask 1 1 [3]).payload 0) = some .z2 ∧ (joined.gen .a .z2).run ≠ .fault) ∧
    (Reaches .faultClear (ask 1 1 [3]) (.lineCtl .a) .a (jammed ⟨true, false, true⟩ .connected) ∧
      ((jammed ⟨true, false, true⟩ .connected).gen .a .z2).run = .fault) ∧
    (Reaches .faultClear (ask 1 1 [3]) (.lineCtl .a) .a (jammed ⟨false, false, true⟩ .firingUp) ∧
      ((jammed ⟨false, false, true⟩ .firingUp).line .a).reasons = ⟨false, false, true⟩) ∧
    Reaches .faultClear (ask 1 1 [3]) (.lineCtl .a) .a (jammed ⟨false, false, true⟩ .connected) ∧
    ((genA .z1 (fun g => { g with run := .fault }) (jammed ⟨false, false, true⟩ .connected)).gen .a .z1).run =
      .fault := by
  refine ⟨⟨meets ?_, ?_⟩, ⟨meets ?_, ?_⟩, ⟨meets ?_, ?_⟩, ⟨meets ?_, ?_⟩, meets ?_, ?_⟩ <;> decide +kernel

theorem witness_StrokeCompletes :
    let s := inFlight 100 joined
    let r := running .z2 joined
    (s.pins.resetLow = false ∧ (s.gen .a .z2).configured = true ∧ (s.genConfig .a .z2).completeEdge = .rising ∧
      (s.gen .a .z2).phase = .active ∧ (s.gen .a .z2).limitMin ≤ s.elapsed (s.gen .a .z2).activeSince ∧
      (s.gen .a .z2).pending = false) ∧
    ((r.gen .a .z2).configured = true ∧ (r.gen .a .z2).phase = .rest) ∧ (joined.gen .a .z2).configured = false := by
  decide +kernel

theorem witness_StrokeFaults :
    let s := inFlight 99 joined
    let t := inFlight 2500 joined
    (s.pins.resetLow = false ∧ (s.gen .a .z2).configured = true ∧ (s.gen .a .z2).phase = .active ∧
      s.elapsed (s.gen .a .z2).activeSince < (s.gen .a .z2).limitMin ∧ (s.gen .a .z2).run ≠ .fault) ∧
    ((t.gen .a .z2).limitMax ≤ t.elapsed (t.gen .a .z2).activeSince ∧ (t.gen .a .z2).run ≠ .fault) ∧
    ¬ (s.gen .a .z2).limitMax ≤ s.elapsed (s.gen .a .z2).activeSince := by decide +kernel

theorem witness_StrokeFaults_jam :
    let s := genA .z2 (fun g => { g with consecutive := 2 }) (inFlight 99 joined)
    ConnectSound s ∧ (s.lineState .a).feeding = true ∧ 3 ≤ (s.gen .a .z2).consecutive + 1 :=
  ⟨connect_sound rfl rfl (by intro l; cases l <;> decide +kernel), by decide +kernel, by decide +kernel⟩

theorem witness_CountdownExpiry :
    let s := running .feed joined
    let none' := genA .feed (fun g => { g with buffer := .none }) s
    let busy (p : Bool) := genA .feed (fun g => { g with phase := .active, pending := p }) s
    ((s.gen .a .feed).run = .running ∧ (s.gen .a .feed).countdown = some 1 ∧ (s.gen .a .feed).phase = .rest ∧
      (s.gen .a .feed).periodTaken = some 64000 ∧ (s.gen .a .feed).buffer ≠ .none) ∧
    (none'.gen .a .feed).buffer = .none ∧ ((busy false).gen .a .feed).pending = false ∧
    ((busy true).gen .a .feed).pending = true ∧ ((busy true).gen .a .feed).phase = .active ∧
    (joined.gen .a .feed).run ≠ .running ∧ GenRecord.reset.trimAcc < 64 ∧
    ({ GenRecord.reset with trimAcc := 63 } : GenRecord).trimAcc < 64 := by decide +kernel

theorem witness_PulsesCounted :
    let s := genA .nox (fun g => { g with phase := .active, activeSince := day.now - 20#32 }) joined
    let c := { s with counters := s.counters.set .a ⟨true, .rising, 65535, 65534, 9#32⟩ }
    ((s.gen .a .nox).phase = .active ∧ (s.genConfig .a .nox).pulseWidth ≤ s.elapsed (s.gen .a .nox).activeSince ∧
      (s.gen .a .nox).pending = false) ∧
    ((genA .nox (fun g => { g with pending := true }) s).gen .a .nox).pending = true ∧
    (c.pins.resetLow = false ∧ (c.counters.get .a).sensing = true ∧ (c.counters.get .a).edge = .rising) ∧
    (joined.counters.get .a).sensing = false := by decide +kernel

/-- Whether a broadcast is taken, as a Bool. -/
def taken (k : Kind) (f : Frame) (s : State) : Bool :=
  !s.pins.resetLow && s.bus.receives && decide (f.dst = 0#8) && decide (s.bus.address ≠ 0#8) &&
    decide (f.src ≠ s.bus.address) && broadcastTaken k f.src && lengthAllowed k f.payload.length

/-- `taken` decides `ReachesAll`. -/
theorem meets_all {k : Kind} {f : Frame} {s : State} (h : taken k f s = true) : ReachesAll k f s := by
  simp only [taken, Bool.and_eq_true, Bool.not_eq_true', decide_eq_true_eq] at h
  obtain ⟨⟨⟨⟨⟨⟨h1, h2⟩, h3⟩, h4⟩, h5⟩, h6⟩, h7⟩ := h
  exact ⟨h1, h2, h3, h4, h5, h6, h7⟩

/-- `day` some ticks after its header report and its turbine record. -/
def silent (n : Nat) (x : Silence) : State :=
  { day with
    time := { day.time with tick := 70000#32 + BitVec.ofNat 32 n }
    sched := { day.sched with turbine := ⟨.onGrid, 1200, 70000#32, x⟩, ceiling := 1200 } }

theorem witness_HeaderReports :
    Reaches .headerState (ask 4 0 [0x0F, 0xA0, 0, 10]) .turbine .a day ∧
    ReachesAll .headerState (tell 4 [0x4E, 0x21, 0xF8, 0x2F]) connecting ∧ connecting.registry.slot ≠ none ∧
    ReachesAll .headerState (tell 4 [0x0F, 0xA0, 0, 10]) day ∧ day.registry.slot = none ∧
    ((silent 500 .reporting).registry.header.stale = false ∧
      500 ≤ (silent 500 .reporting).elapsed (silent 500 .reporting).registry.header.arrival) ∧
    (silent 499 .reporting).elapsed (silent 499 .reporting).registry.header.arrival < 500 :=
  ⟨meets (by decide +kernel), meets_all (by decide +kernel), by decide +kernel, meets_all (by decide +kernel),
    by decide +kernel⟩

theorem witness_TurbineReports :
    (Reaches .turbineState (ask 4 0 [2, 0x05, 0x14]) .turbine .a day ∧
      turbineStateOfCode (byteAt (ask 4 0 [2, 0x05, 0x14]).payload 0) = some .onGrid) ∧
    (ReachesAll .turbineState (tell 4 [3, 0, 0]) day ∧
      turbineStateOfCode (byteAt (tell 4 [3, 0, 0]).payload 0) = some .tripped) ∧
    (Reaches .turbineState (ask 4 0 [4, 0, 0]) .turbine .a day ∧ 3 < byteAt (ask 4 0 [4, 0, 0]).payload 0) ∧
    ReachesAll .turbineState (tell 4 [4, 0, 0]) day ∧
    ((silent 500 .reporting).pins.resetLow = false ∧ (silent 500 .reporting).sched.turbine.silence = .reporting ∧
      500 ≤ (silent 500 .reporting).elapsed (silent 500 .reporting).sched.turbine.arrival) ∧
    ((silent 3000 .silent).sched.turbine.silence ≠ .lost ∧
      3000 ≤ (silent 3000 .silent).elapsed (silent 3000 .silent).sched.turbine.arrival) ∧
    (silent 499 .reporting).elapsed 70000#32 < 500 ∧ (silent 2999 .silent).elapsed 70000#32 < 3000 := by
  refine ⟨⟨meets ?_, ?_⟩, ⟨meets_all ?_, ?_⟩, ⟨meets ?_, ?_⟩, meets_all ?_, ?_⟩ <;> decide +kernel

theorem witness_Lookups : PlantConfig.reset.charP.length = 8 ∧ PlantConfig.reset.charS.length = 8 ∧
    increasing PlantConfig.reset.charP = true ∧ increasing PlantConfig.reset.charS = true := by decide +kernel

/-- A SAMPLE of line A with every value marked valid. -/
def sampleOf (o : Nat) : Frame :=
  ask 5 1 [o / 256, o % 256, 0xFF, 0xFF, 0, 1, 0, 1, 0, 1, 0, 1, 0, 1, 0x7F]

theorem witness_SampleStored :
    (Reaches .sample (sampleOf 2101) .cleaning .a joined ∧ 2100 < word16 (sampleOf 2101).payload 0) ∧
    (Reaches .sample (sampleOf 2100) .cleaning .a day ∧ word16 (sampleOf 2100).payload 0 ≤ 2100 ∧
      day.lineState .a = .offline) ∧
    (Reaches .sample (sampleOf 1999) .cleaning .a joined ∧ word16 (sampleOf 1999).payload 0 ≤ 2100 ∧
      joined.lineState .a ≠ .offline) := by
  refine ⟨⟨meets ?_, ?_⟩, ⟨meets ?_, ?_⟩, meets ?_, ?_⟩ <;> decide +kernel

theorem witness_DoseRequests :
    (Reaches .doseOverride (ask 5 1 [0, 0, 0, 1]) .cleaning .a joined ∧
      channelOfCode (byteAt (ask 5 1 [0, 0, 0, 1]).payload 0) = none) ∧
    (Reaches .doseOverride (ask 5 1 [1, 0x01, 0x86, 0xA0]) .cleaning .a joined ∧
      channelOfCode (byteAt (ask 5 1 [1, 0x01, 0x86, 0xA0]).payload 0) = some .nox) ∧
    (Reaches .doseOverride (ask 5 1 [2, 0x01, 0x86, 0xA1]) .cleaning .a day ∧ day.lineState .a = .offline) ∧
    (Reaches .doseAuto (ask 5 1 [3]) .cleaning .a joined ∧ channelOfCode (byteAt (ask 5 1 [3]).payload 0) = none) ∧
    (Reaches .doseAuto (ask 5 1 [2]) .cleaning .a dosed ∧
      channelOfCode (byteAt (ask 5 1 [2]).payload 0) = some .acid) := by
  refine ⟨⟨meets ?_, ?_⟩, ⟨meets ?_, ?_⟩, ⟨meets ?_, ?_⟩, ⟨meets ?_, ?_⟩, meets ?_, ?_⟩ <;> decide +kernel

theorem witness_ClockFullSet :
    (Reaches .clockSet (ask 6 0 [0x01, 0x51, 0x80]) .supervisory .a day ∧
      86399 < word24 (ask 6 0 [0x01, 0x51, 0x80]).payload 0) ∧
    (Reaches .clockSet (ask 6 0 [0x01, 0x51, 0x7F]) .supervisory .a day ∧
      word24 (ask 6 0 [0x01, 0x51, 0x7F]).payload 0 ≤ 86399) ∧
    ReachesAll .clockSet (tell 6 [0x01, 0x51, 0x7F]) day ∧ ReachesAll .clockSet (tell 6 [0x01, 0x51, 0x80]) day ∧
    (∀ k, day.fitted k = true → day.lineState k = .offline) ∧ day.time.slotDue = false ∧ day.time.minuteDue = false := by
  refine ⟨⟨meets ?_, ?_⟩, ⟨meets ?_, ?_⟩, meets_all ?_, meets_all ?_, fun k => ?_, ?_, ?_⟩
  case refine_7 => cases k <;> decide +kernel
  all_goals decide +kernel

/-- Every line OFFLINE under an active block: the set ends POWER_LED. -/
def leading : State := { day with
  sched := { day.sched with
    mode := .powerLed, ceiling := 1400, ramped := 280, turbine := ⟨.onGrid, 1400, 70000#32, .reporting⟩
    active := some ⟨⟨0, 600, 280, 25, none⟩, none⟩ } }

theorem witness_ClockFullSet_modes :
    (Reaches .clockSet (ask 6 0 [0x01, 0x51, 0x7F]) .supervisory .a leading ∧ leading.sched.mode = .powerLed ∧
      leading.time.slotDue = false ∧ leading.time.minuteDue = false ∧ leading.lineState .a = .offline ∧
      leading.lineState .b = .offline ∧ leading.lineState .c = .offline) ∧
    day.sched.mode = .steamLed ∧ day.sched.ceiling = day.ceilingNow :=
  ⟨⟨meets (by decide +kernel), by decide +kernel⟩, by decide +kernel⟩

/-- `joined` at 12:20:05.30 with a number of hold ticks left. -/
def trimming (hold : Nat) : State :=
  { joined with time := { joined.time with clock := ⟨740, 5, 30, true, hold⟩ } }

/-- 3.7: d = -1530 with no hold, refused with 3530; a d equal to the hold, one above it, and 3001. -/
theorem witness_ClockTrim :
    (∀ h, Reaches .clockSet (ask 6 0 [0x00, 0xAD, 0x66]) .supervisory .a (trimming h)) ∧
    (∃ k, (trimming 0).fitted k = true ∧ (trimming 0).lineState k ≠ .offline) ∧ ClockSound (trimming 3000) ∧
    (trimming 0).time.slotDue = false ∧ (trimming 0).time.minuteDue = false ∧
    (((trimming 0).time.clock.ticks : Int) - 0 + (-1530) - (44390 : Int) * 100) % 8640000 = 0 ∧
    (((trimming 1471).time.clock.ticks : Int) - 1471 + (-59) - (44390 : Int) * 100) % 8640000 = 0 ∧
    (((trimming 1530).time.clock.ticks : Int) - 1530 + 0 - (44390 : Int) * 100) % 8640000 = 0 ∧
    (((trimming 1531).time.clock.ticks : Int) - 1531 + 1 - (44390 : Int) * 100) % 8640000 = 0 ∧
    word24 (ask 6 0 [0x00, 0xAD, 0x66]).payload 0 = 44390 ∧ (trimming 1).time.clock.hold = 1 := by
  refine ⟨fun h => meets ?_, ⟨.a, ?_⟩, clock_sound ?_, ?_⟩
  · show reaches .clockSet (ask 6 0 [0x00, 0xAD, 0x66]) .supervisory .a (trimming 0) = true
    decide +kernel
  all_goals decide +kernel

/-- A forward trim of 1,470 ticks past two slot boundaries of the same minute, sent to the part and broadcast, one past the
minute 12:21 onto its first slot boundary, and one of 3,001. -/
theorem witness_ClockTrim_forward :
    ReachesAll .clockSet (tell 6 [0x00, 0xAD, 0x84]) (trimming 0) ∧
    (let s : State := { joined with time := { joined.time with clock := ⟨740, 50, 0, true, 0⟩ } };
      ((s.time.clock.ticks : Int) - 0 + 2000 - (44470 : Int) * 100) % 8640000 = 0) ∧
    (((trimming 0).time.clock.ticks : Int) - 0 + 1470 - (44420 : Int) * 100) % 8640000 = 0 ∧
    Reaches .clockSet (ask 6 0 [0x00, 0xAD, 0x84]) .supervisory .a (trimming 0) ∧
    word24 (ask 6 0 [0x00, 0xAD, 0x84]).payload 0 = 44420 ∧
    (let s : State := { joined with time := { joined.time with clock := ⟨740, 4, 99, true, 0⟩ } };
      ((s.time.clock.ticks : Int) - 0 + 3001 - (44435 : Int) * 100) % 8640000 = 0) :=
  ⟨meets_all (by decide +kernel), by decide +kernel, by decide +kernel, meets (by decide +kernel), by decide +kernel,
    by decide +kernel⟩

/-- `day` with blocks pending. -/
def queued (n : Nat) : State :=
  { day with sched := { day.sched with queue := (List.range n).map (fun i => ⟨0, 730 + i, 100, 10, none⟩) } }

theorem schedule_sound_queued : ScheduleSound (queued 24) := by
  refine ⟨by decide +kernel, by decide +kernel, by decide +kernel, by decide +kernel⟩

/-- A SCHEDULE_ADD of an hour's block from a minute of the day on. -/
def addAt (minute : Nat) : Frame := ask 6 0 [0, minute / 256, minute % 256, 0, 100, 200, 0, 60]

theorem witness_ScheduleRequests : ScheduleSound up ∧ ScheduleSound (queued 24) ∧
    (Reaches .scheduleAdd (addAt 730) .supervisory .a up ∧ up.time.clock.valid = false) ∧
    (Reaches .scheduleAdd (ask 6 0 [2, 2, 218, 0, 100, 200, 0, 60]) .supervisory .a (queued 24) ∧
      (queued 24).time.clock.valid = true) ∧
    (Reaches .scheduleAdd (addAt 729) .supervisory .a (queued 24) ∧ (queued 24).presentMinute = 729) ∧
    (Reaches .scheduleAdd (addAt 753) .supervisory .a (queued 24) ∧ (queued 24).sched.queue.length = 24 ∧
      (queued 24).sched.queue.any (fun x => decide (x.start = 753)) = true) ∧
    (Reaches .scheduleAdd (addAt 754) .supervisory .a (queued 24) ∧
      (queued 24).sched.queue.any (fun x => decide (x.start = 754)) = false) ∧
    Reaches .scheduleWithdraw (ask 6 0 [0, 2, 0xDA]) .supervisory .a (queued 24) ∧
    (Reaches .scheduleWithdraw (ask 6 0 [255, 0, 0]) .supervisory .a (plant 60) ∧ ScheduleSound (plant 60) ∧
      (plant 60).sched.active.isSome = true ∧ (queued 24).sched.active = none) := by
  refine ⟨⟨?_, ?_, ?_, ?_⟩, schedule_sound_queued, ⟨meets ?_, ?_⟩, ⟨meets ?_, ?_⟩, ⟨meets ?_, ?_⟩, ⟨meets ?_, ?_⟩,
    ⟨meets ?_, ?_⟩, meets ?_, meets ?_, ⟨?_, ?_, ?_, ?_⟩, ?_⟩ <;> decide +kernel

/-- The surplus, limit and share cases, STEAM_LED, and shedding of line C alone. -/
theorem witness_SteamDivision :
    let s := plant 60
    let few : State := { s with sched := { s.sched with ramped := 0, ceiling := 300 } }
    let many : State := { s with sched := { s.sched with ramped := 450, ceiling := 1500 } }
    s.sched.mode = .powerLed ∧ day.sched.mode = .steamLed ∧
    (few.divide (.all true)).bypass = 340 ∧ (many.divide (.all true)).shortfall = true ∧
    s.config.plant.shedOrder.Nodup ∧ (∀ l, l ∈ s.config.plant.shedOrder) ∧
    (let t : State := { few with config := { few.config with plant := { few.config.plant with bypassMax := 339 } } };
      (t.outcome (.all true)).2 = ⟨true, true, false⟩) := by
  refine ⟨rfl, rfl, by decide +kernel, by decide +kernel, by decide +kernel, fun l => ?_, by decide +kernel⟩
  cases l <;> decide +kernel

theorem witness_AuxSet : Reaches .auxSet (ask 6 0 [0, 60]) .supervisory .a (plant 0) ∧
    Reaches .auxSet (ask 6 0 [255, 255]) .supervisory .a day :=
  ⟨meets (by decide +kernel), meets (by decide +kernel)⟩

/-- The queue and the slot of `day`, and of it with line A waiting, agree with the line states. -/
theorem witness_ConfigWrite_queue : ConnectSound day ∧
    ConnectSound { lineA .connectPending day with
      registry := { (lineA .connectPending day).registry with queue := [.a] } } :=
  ⟨connect_sound rfl rfl (by intro l; cases l <;> decide +kernel),
    by decide +kernel, by intro l; cases l <;> decide +kernel, by intro l; cases l <;> decide +kernel⟩

/-- Writes that the owners act on: connect window, bypass_max, turbine_max, low_water, table; floor; trim limits. -/
theorem witness_ConfigWrite_owners :
    Reaches .configWrite (ask 6 0 [1, 0, 0, 1, 0, 0x0E, 0x10, 5, 0, 1, 0xF4, 10, 0, 0, 24]) .supervisory .a day ∧
    Reaches .configWrite (ask 6 0 [1, 0, 0, 6, 0, 0x05, 0xDC, 16, 0, 0, 1]) .supervisory .a day ∧
    Reaches .configWrite (ask 6 0 [2, 1, 0, 17, 0, 3, 0xE8, 8, 0, 0x0A, 0xF0]) .supervisory .a joined ∧
    (Reaches .configWrite (ask 6 0 [5, 1, 1, 8, 255, 255, 206, 1, 0, 0, 10]) .supervisory .a joined ∧
      placeOf 5 1 1 = some (.dosing .a .nox)) ∧
    joined.config.plant.charP.length = 8 ∧ joined.config.plant.charS.length = 8 ∧
    checkWrite .plant [(1, 3600), (5, 500), (10, 24)] day = none ∧ checkWrite .plant [(6, 1500), (16, 1)] day = none ∧
    checkWrite (.line .a) [(17, 1000), (8, 2800)] joined = none ∧
    checkWrite (.dosing .a .nox) [(8, -50), (1, 10)] joined = none := by
  refine ⟨meets ?_, meets ?_, meets ?_, ⟨meets ?_, ?_⟩, ?_⟩ <;> decide +kernel

theorem witness_ConfigWrite :
    (Reaches .configWrite (ask 6 0 [6, 0, 0, 1, 0, 0, 1]) .supervisory .a day ∧ placeOf 6 0 0 = none) ∧
    (Reaches .configWrite (ask 6 0 [1, 0, 0, 4, 0, 0, 200]) .supervisory .a day ∧ placeOf 1 0 0 = some .plant ∧
      day.config.plant.charP.length = 8 ∧ day.config.plant.charS.length = 8) ∧
    Reaches .configWrite (ask 6 0 [1, 0, 0, 4, 0, 0, 200, 4, 0, 0, 200]) .supervisory .a day ∧
    Reaches .configWrite (ask 6 0 [1, 0, 0, 1, 0, 0x27, 0x10]) .supervisory .a day ∧
    ((Place.plant.constraints day.config (budgetFor .plant day)).all (fun c => c.holds) = true ∧
      (Place.plant.constraints (day.config.withPairs .plant [(1, 10000)]) (budgetFor .plant day)).all
        (fun c => c.holds) = false) ∧
    (Reaches .configWrite (ask 6 0 [2, 1, 0, 1, 0, 0, 210]) .supervisory .a day ∧ placeOf 2 1 0 = some (.line .a)) ∧
    (Reaches .configWrite (ask 6 0 [3, 1, 1, 1, 0, 0x10, 0]) .supervisory .a day ∧
      placeOf 3 1 1 = some (.generator .a .feed)) ∧
    (Reaches .configWrite (ask 6 0 [4, 1, 1, 1, 0, 0, 100]) .supervisory .a day ∧
      placeOf 4 1 1 = some (.ledger .a .co)) := by
  refine ⟨⟨meets ?_, ?_⟩, ⟨meets ?_, ?_⟩, meets ?_, meets ?_, ?_, ⟨meets ?_, ?_⟩, ⟨meets ?_, ?_⟩, meets ?_, ?_⟩ <;>
    decide +kernel

theorem witness_ConfigRead : (Reaches .configRead (ask 6 0 [1, 1, 0, 0]) .supervisory .a day ∧ placeOf 1 1 0 = none) ∧
    (Reaches .configRead (ask 6 0 [5, 1, 2, 0]) .supervisory .a day ∧ placeOf 5 1 2 = some (.dosing .a .acid)) ∧
    (Reaches .configRead (ask 6 0 [1, 0, 0, 32]) .supervisory .a day ∧ placeOf 1 0 0 = some .plant) := by
  refine ⟨⟨meets ?_, ?_⟩, ⟨meets ?_, ?_⟩, meets ?_, ?_⟩ <;> decide +kernel

theorem witness_Budgets :
    (Reaches .budgetLoad (ask 6 1 [0x01, 0x91, 0]) .supervisory .a day ∧
      400 < word16 (ask 6 1 [0x01, 0x91, 0]).payload 0 ∧ 1 < byteAt (ask 6 1 [0, 0, 2]).payload 2) ∧
    (Reaches .budgetLoad (ask 6 1 [0x01, 0x90, 1]) .supervisory .a joined ∧ joined.lineState .a ≠ .offline ∧
      word16 (ask 6 1 [0x01, 0x90, 1]).payload 0 ≤ 400) ∧
    (Reaches .budgetLoad (ask 6 1 [0, 101, 0]) .supervisory .a day ∧ day.lineState .a = .offline ∧
      (day.lineConfig .a).allowance < 101) ∧
    (Reaches .budgetLoad (ask 6 1 [0, 100, 1]) .supervisory .a day ∧ 100 ≤ (day.lineConfig .a).allowance) ∧
    Reaches .lockoutClear (ask 6 1 []) .supervisory .a joined ∧ Reaches .lockoutClear (ask 6 1 []) .supervisory .a day := by
  refine ⟨⟨meets ?_, ?_⟩, ⟨meets ?_, ?_⟩, ⟨meets ?_, ?_⟩, ⟨meets ?_, ?_⟩, meets ?_, meets ?_⟩ <;> decide +kernel

theorem flag_sound_up : FlagSound up := by
  intro st
  refine ⟨?_, ?_, ?_, ?_, fun x _ _ => ?_⟩
  · rcases st with l | _ | _ | _ <;> (try cases l) <;> decide +kernel
  · rcases st with l | _ | _ | _ <;> (try cases l) <;> decide +kernel
  · rcases st with l | _ | _ | _ <;> (try cases l) <;> decide +kernel
  · rcases st with l | _ | _ | _ <;> (try cases l) <;> decide +kernel
  · rename_i h
    revert h
    rcases x with l | l | l | l | l | l | l | l | l | l | _ | _ | _ | _ | _ | _ | _ | _ | _ | _ | _ | _ | _ | _ | _ | _ <;>
      (try rcases l with l | _ | _ | _) <;> (try cases l) <;> decide +kernel

theorem witness_FlagsRead : Reaches .flagsRead (ask 4 0 []) .turbine .a up ∧ FlagSound up :=
  ⟨meets (by decide +kernel), flag_sound_up⟩

theorem witness_MaskWrite : Reaches .maskWrite (ask 1 0 [0xFF, 0xFF]) (.lineCtl .a) .a up ∧
    (up.flags.get (.lineCtl .a)).mode = .level ∧
    ((after (.notifyMode (ask 1 0 [1, 0])) up).flags.get (.lineCtl .a)).mode = .pulse :=
  ⟨meets (by decide +kernel), by decide +kernel, by decide +kernel⟩

theorem witness_NotifyMode : (Reaches .notifyMode (ask 6 0 [2, 0]) .supervisory .a up ∧
      1 < byteAt (ask 6 0 [2, 0]).payload 0 ∧ 1 < byteAt (ask 6 0 [0, 2]).payload 1) ∧
    Reaches .notifyMode (ask 6 0 [1, 1]) .supervisory .a up ∧ Reaches .notifyMode (ask 6 0 [0, 0]) .supervisory .a up :=
  ⟨⟨meets (by decide +kernel), by decide +kernel⟩, meets (by decide +kernel), meets (by decide +kernel)⟩

theorem witness_NotifyLines : up.pins.resetLow = false ∧ FlagSound up ∧ up.flagSet .busFault = false ∧
    up.flagSet (.restarted .turbine) = true ∧ (up.flags.get .turbine).mode = .level :=
  ⟨rfl, flag_sound_up, by decide +kernel⟩

theorem witness_SlotClose : (atTime 730 10 true false joined).time.slotDue = true ∧
    (atTime 730 10 true false joined).time.clock.second ≠ 0 ∧ (atTime 729 0 true false joined).time.slotDue = true ∧
    (atTime 729 0 true false joined).time.clock.minute % 10 ≠ 0 ∧ joined.time.slotDue = false := by decide +kernel

theorem witness_BlockClose : blockEnd.time.slotDue = true ∧ blockEnd.time.clock.second = 0 ∧
    blockEnd.time.clock.minute % 10 = 0 ∧ blockEnd.time.clock.minute % 30 ≠ 0 ∧ blockEnd.fitted .a = true ∧
    blockEnd.lineState .a ≠ .offline ∧ blockEnd.lineState .b = .offline := by decide +kernel

theorem witness_MinuteEvent : (atTime 840 0 false true (plant 60)).time.minuteDue = true ∧
    (atTime 0 0 false true (plant 60)).time.minuteDue = true ∧ joined.time.minuteDue = false ∧
    (plant 60).sched.active.isSome = true ∧ (plant 60).sched.turbine.effective = .onGrid ∧
    (let s := held ⟨false, true, false⟩ .connected
    let s := { s with
      alloc := { s.alloc with shed := ⟨true, false, false⟩ }, sched := { s.sched with ceiling := 1200 } };
    s.releaseCandidate = some .a ∧ s.releasePasses .a = true) := by decide +kernel

theorem witness_PeriodClose : RegistrySound periodEnd ∧ periodEnd.time.slotDue = true ∧
    periodEnd.time.clock.second = 0 ∧ periodEnd.time.clock.minute % 30 = 0 ∧ periodEnd.time.clock.minute < 1440 ∧
    periodEnd.fitted .a = true ∧ (atTime 0 0 true false joined).time.clock.minute = 0 :=
  ⟨⟨connect_sound rfl rfl (by intro l; cases l <;> decide +kernel), by intro l; cases l <;> decide +kernel⟩,
    by decide +kernel⟩

theorem step_up : ∃ t, step { up with pending := [.noiseBurst] } = .next t := ⟨_, rfl⟩

theorem step_joined : ∃ t, step { joined with pending := [.feedHold (ask 1 1 [])] } = .next t := ⟨_, rfl⟩

theorem witness_AllocationStaysSound : AllocationSound joined ∧
    ∃ t, step { joined with pending := [.feedHold (ask 1 1 [])] } = .next t :=
  ⟨⟨by intro l; cases l <;> decide +kernel, by decide +kernel⟩, step_joined⟩

theorem witness_RegistryStaysSound : RegistrySound joined ∧ LockoutSound joined ∧
    ∃ t, step { joined with pending := [.feedHold (ask 1 1 [])] } = .next t :=
  ⟨registry_sound_joined, by intro l; cases l <;> decide +kernel, step_joined⟩

theorem witness_LevelsStaySound : MonitorSound joined ∧ DoseSound joined ∧
    ∃ t, step { joined with pending := [.feedHold (ask 1 1 [])] } = .next t :=
  ⟨by intro l; cases l <;> decide +kernel, by intro l c; cases l <;> cases c <;> decide +kernel, step_joined⟩

theorem witness_GeneratorsStaySound : PermissionSound joined ∧ PeriodSound joined ∧ FaultSound joined ∧
    PendingSound joined ∧
    ∃ t, step { joined with pending := [.feedHold (ask 1 1 [])] } = .next t := by
  refine ⟨by intro l k; cases l <;> cases k <;> decide +kernel, fun l k => ?_,
    by intro l k; cases l <;> cases k <;> decide +kernel, by intro l k; cases l <;> cases k <;> decide +kernel,
    step_joined⟩
  refine ⟨?_, ?_, fun q h => ?_, fun c h => ?_, ?_, ?_⟩
  case refine_3 =>
    have : ¬ ((joined.gen l k).current = some q ∨ (joined.gen l k).buffer = .period q) := by
      cases l <;> cases k <;> exact fun h => by rcases h with h | h <;> cases h
    exact absurd h this
  case refine_4 =>
    have : (joined.gen l k).countdown = none := by cases l <;> cases k <;> rfl
    rw [this] at h; cases h
  all_goals (cases l <;> cases k <;> decide +kernel)

theorem witness_RecordsStaySound : LedgerSound joined ∧ FeedMassSound joined ∧ AnswerSound joined ∧ ResetHeld joined ∧
    ∃ t, step { joined with pending := [.feedHold (ask 1 1 [])] } = .next t := by
  refine ⟨fun l p => ⟨?_, ?_, ?_, fun x v hx => ?_⟩, fun l => ?_, ⟨fun a h => ?_, fun st x h => ?_⟩, fun h => ?_,
    step_joined⟩
  · cases l <;> cases p <;> decide +kernel
  · cases l <;> cases p <;> decide +kernel
  · cases l <;> cases p <;> decide +kernel
  · have : (joined.ledger.get l).store = none := by cases l <;> rfl
    rw [this] at hx; cases hx
  · cases l <;> decide +kernel
  · cases h
  · have : joined.bus.snapshots.get st = none := by
      rcases st with l | _ | _ | _ <;> (try cases l) <;> rfl
    rw [this] at h; cases h
  · cases h

theorem witness_TimeStaysSound : ClockSound (queued 24) ∧ ScheduleSound (queued 24) ∧
    ∃ t, step { queued 24 with pending := [.noiseBurst] } = .next t :=
  ⟨clock_sound (by decide +kernel), schedule_sound_queued, _, rfl⟩

theorem witness_FlagsStaySound : FlagSound up ∧ ConditionSound up ∧ ResetHeld up ∧
    ∃ t, step { up with pending := [.noiseBurst] } = .next t := by
  refine ⟨flag_sound_up, ⟨?_, ?_, ?_, ?_, by decide +kernel, by decide +kernel, by decide +kernel, by decide +kernel,
    by decide +kernel, by decide +kernel, by decide +kernel, fun _ => by decide +kernel, fun _ => by decide +kernel,
    fun _ => by decide +kernel⟩, fun h => ?_, step_up⟩
  all_goals first | (intro l; cases l <;> decide +kernel) | cases h

/-- Line A outside the feeding states with a FEED stroke in flight. -/
def flying : State := genA .feed (fun g => { g with phase := .active }) day

theorem witness_NoFeedOutsideFeeding : PermissionSound flying ∧ PendingSound flying ∧
    (∃ t, step { flying with pending := [.noiseBurst] } = .next t ∧ (t.lineState .a).feeding = false ∧
      (t.gen .a .feed).phase = .active) ∧
    (flying.lineState .a).feeding = false :=
  ⟨by intro l k; cases l <;> cases k <;> decide +kernel, by intro l k; cases l <;> cases k <;> decide +kernel,
    ⟨_, rfl, by decide +kernel⟩, by decide +kernel⟩

end Sys2Proof.Tests
end

/-! The lookups of the characteristic table (R69). `lookupPoints` is followed along its list of points, `Interpolates`
says what R69 asks of a lookup in either direction, and the way there and back needs nothing but that. -/

namespace Sys2Proof.Machine

/-! ### A lookup on a list of points -/

theorem pairwise_lt_of_increasing {xs : List Nat} (h : increasing xs = true) : xs.Pairwise (· < ·) := by
  fun_induction increasing xs with
  | case1 => exact .nil
  | case2 x => exact List.pairwise_singleton _ x
  | case3 x y rest ih =>
    obtain ⟨hxy, hrest⟩ := (Bool.and_eq_true _ _).mp h
    have hpair : (y :: rest).Pairwise (· < ·) := ih hrest
    refine .cons (fun z hz => ?_) hpair
    have hxy : x < y := of_decide_eq_true hxy
    obtain rfl | hmem := List.mem_cons.mp hz
    · exact hxy
    · exact Nat.lt_trans hxy (List.rel_of_pairwise_cons hpair hmem)

theorem getD_zero_eq_getElem (xs : List Nat) {k : Nat} (hk : k < xs.length) : xs.getD k 0 = xs[k] := by
  rw [List.getD_eq_getElem?_getD, List.getElem?_eq_getElem hk, Option.getD_some]

theorem getD_lt_getD_succ_of_increasing {xs : List Nat} (h : increasing xs = true) {k : Nat}
    (hk : k + 1 < xs.length) : xs.getD k 0 < xs.getD (k + 1) 0 := by
  rw [getD_zero_eq_getElem xs hk, getD_zero_eq_getElem xs (Nat.lt_of_succ_lt hk)]
  exact List.pairwise_iff_getElem.mp (pairwise_lt_of_increasing h) k (k + 1) _ hk k.lt_succ_self

/-- The points of a table rise in their first coordinate, the one that is looked up. -/
def Rising (pts : List (Nat × Nat)) : Prop := pts.Pairwise (·.1 < ·.1)

theorem rising_zip {xs ys : List Nat} (h : increasing xs = true) (hlen : xs.length ≤ ys.length) :
    Rising (xs.zip ys) := by
  have hfst : ((xs.zip ys).map Prod.fst).Pairwise (· < ·) := by
    rw [List.map_fst_zip hlen]
    exact pairwise_lt_of_increasing h
  exact List.pairwise_map.mp hfst

theorem Rising.tail {p : Nat × Nat} {pts : List (Nat × Nat)} (h : Rising (p :: pts)) : Rising pts :=
  List.Pairwise.of_cons h

theorem Rising.getElem_fst_lt {pts : List (Nat × Nat)} (h : Rising pts) (i j : Nat) (hj : j < pts.length)
    (hij : i < j) : pts[i].1 < pts[j].1 :=
  List.pairwise_iff_getElem.mp h i j _ hj hij

theorem Rising.getElem_fst_le {pts : List (Nat × Nat)} (h : Rising pts) (i j : Nat) (hj : j < pts.length)
    (hij : i ≤ j) : pts[i].1 ≤ pts[j].1 := by
  obtain rfl | hlt := Nat.eq_or_lt_of_le hij
  · exact Nat.le_refl _
  · exact Nat.le_of_lt (h.getElem_fst_lt i j hj hlt)

theorem lookupPoints_of_le_first {pts : List (Nat × Nat)} {x : Nat} (hpos : 0 < pts.length)
    (hx : x ≤ pts[0].1) : lookupPoints pts x = pts[0].2 := by
  match pts with
  | [_] => rfl
  | p :: q :: rest => exact if_pos hx

theorem lookupPoints_of_last_le {pts : List (Nat × Nat)} {n x : Nat} (hrise : Rising pts)
    (hlen : pts.length = n + 1) (hx : pts[n].1 ≤ x) : lookupPoints pts x = pts[n].2 := by
  fun_induction lookupPoints pts x generalizing n with
  | case1 => cases hlen
  | case2 p =>
    obtain rfl : 0 = n := Nat.succ.inj hlen
    rfl
  | case3 p q rest x hle =>
    have hn : rest.length + 1 = n := Nat.succ.inj hlen
    have : p.1 < (p :: q :: rest)[n].1 := hrise.getElem_fst_lt 0 n (by omega) (by omega)
    omega
  | case4 p q rest x _ hlt =>
    have hn : rest.length + 1 = n := Nat.succ.inj hlen
    have : q.1 ≤ (p :: q :: rest)[n].1 := hrise.getElem_fst_le 1 n (by omega) (by omega)
    omega
  | case5 p q rest x _ _ ih =>
    obtain rfl : rest.length + 1 = n := Nat.succ.inj hlen
    exact ih hrise.tail rfl hx

theorem lookupPoints_of_segment {pts : List (Nat × Nat)} {k x : Nat} (hrise : Rising pts)
    (hk : k + 1 < pts.length) (hlo : pts[k].1 ≤ x) (hhi : x < pts[k + 1].1) :
    lookupPoints pts x =
      pts[k].2 + (x - pts[k].1) * (pts[k + 1].2 - pts[k].2) / (pts[k + 1].1 - pts[k].1) := by
  fun_induction lookupPoints pts x generalizing k with
  | case1 => simp at hk
  | case2 => simp at hk
  | case3 p q rest x hle =>
    cases k with
    | zero =>
      have hbase : x - p.1 = 0 := Nat.sub_eq_zero_of_le hle
      simp [hbase]
    | succ k =>
      have : p.1 < (p :: q :: rest)[k + 1].1 := hrise.getElem_fst_lt 0 (k + 1) (by omega) k.succ_pos
      omega
  | case4 p q rest x _ hlt =>
    cases k with
    | zero => rfl
    | succ k =>
      have : q.1 ≤ (p :: q :: rest)[k + 1].1 := hrise.getElem_fst_le 1 (k + 1) (by omega) (by omega)
      omega
  | case5 p q rest x _ hge ih =>
    cases k with
    | zero => exact absurd hhi hge
    | succ k => exact ih hrise.tail (Nat.lt_of_succ_lt_succ hk) hlo hhi

/-! ### What R69 asks of a lookup -/

/-- `f` is the lookup from column `p` to column `q` of a table with points 0 to `n` (R69): the end points beyond the
ends and the rounded-down interpolation of the segment in between. -/
def Interpolates (p q : Nat → Nat) (n : Nat) (f : Nat → Nat) : Prop :=
  ∀ x, (x ≤ p 0 → f x = q 0) ∧ (p n ≤ x → f x = q n) ∧
    ∀ k, k < n → p k ≤ x → x < p (k + 1) →
      f x = q k + (x - p k) * (q (k + 1) - q k) / (p (k + 1) - p k)

theorem interpolates_lookupPoints_zip {xs ys : List Nat} {n : Nat} (hxs : xs.length = n + 1)
    (hys : ys.length = n + 1) (hinc : increasing xs = true) :
    Interpolates (xs.getD · 0) (ys.getD · 0) n (lookupPoints (xs.zip ys)) := by
  have hrise : Rising (xs.zip ys) := rising_zip hinc (Nat.le_of_eq (hxs.trans hys.symm))
  have hlen : (xs.zip ys).length = n + 1 := by rw [List.length_zip, hxs, hys, Nat.min_self]
  have hx (k : Nat) (hk : k < n + 1) : xs.getD k 0 = ((xs.zip ys)[k]).1 := by
    rw [getD_zero_eq_getElem xs (hxs ▸ hk), List.getElem_zip]
  have hy (k : Nat) (hk : k < n + 1) : ys.getD k 0 = ((xs.zip ys)[k]).2 := by
    rw [getD_zero_eq_getElem ys (hys ▸ hk), List.getElem_zip]
  intro x
  dsimp only
  refine ⟨fun h => ?first, fun h => ?last, fun k hk hlo hhi => ?segment⟩
  case first =>
    rw [hx 0 n.succ_pos] at h
    rw [hy 0 n.succ_pos]
    exact lookupPoints_of_le_first _ h
  case last =>
    rw [hx n n.lt_succ_self] at h
    rw [hy n n.lt_succ_self]
    exact lookupPoints_of_last_le hrise hlen h
  case segment =>
    have hk' : k + 1 < n + 1 := Nat.succ_lt_succ hk
    have hk₀ : k < n + 1 := Nat.lt_of_succ_lt hk'
    simp only [hx k hk₀, hx (k + 1) hk', hy k hk₀, hy (k + 1) hk'] at hlo hhi ⊢
    exact lookupPoints_of_segment hrise (hlen ▸ hk') hlo hhi

/-! ### There and back -/

/-- Rounding down both ways loses, never gains. -/
theorem mul_div_mul_div_le (a d e : Nat) : a * d / e * e / d ≤ a :=
  Nat.div_le_of_le_mul (Nat.mul_comm a d ▸ Nat.div_mul_le_self _ _)

theorem exists_segment {p : Nat → Nat} {n x : Nat} (hlo : p 0 ≤ x) (hhi : x < p n) :
    ∃ k < n, p k ≤ x ∧ x < p (k + 1) := by
  induction n with
  | zero => omega
  | succ n ih =>
    by_cases hx : x < p n
    · obtain ⟨k, hk, hseg⟩ := ih hx
      exact ⟨k, Nat.lt_succ_of_lt hk, hseg⟩
    · exact ⟨n, n.lt_succ_self, Nat.le_of_not_lt hx, hhi⟩

section
variable {p q : Nat → Nat} {n : Nat} {f g : Nat → Nat}

theorem Interpolates.comp_of_lt_first (hf : Interpolates p q n f) (hg : Interpolates q p n g) {x : Nat}
    (hx : x < p 0) : g (f x) = p 0 := by
  obtain ⟨hfFirst, -, -⟩ := hf x
  obtain ⟨hgFirst, -, -⟩ := hg (q 0)
  rw [hfFirst (Nat.le_of_lt hx), hgFirst (Nat.le_refl _)]

/-- The value found in a segment lies in the same segment of the other column, so the way back interpolates between
the same two points. -/
theorem Interpolates.comp_le (hf : Interpolates p q n f) (hg : Interpolates q p n g)
    (hq : ∀ k < n, q k < q (k + 1)) {x : Nat} (hx : p 0 ≤ x) : g (f x) ≤ x := by
  obtain hbelow | hlast := Nat.lt_or_ge x (p n)
  · obtain ⟨k, hk, hlo, hhi⟩ := exists_segment hx hbelow
    obtain ⟨-, -, hfSeg⟩ := hf x
    obtain ⟨-, -, hgSeg⟩ := hg (f x)
    have hfx := hfSeg k hk hlo hhi
    generalize hgain : (x - p k) * (q (k + 1) - q k) / (p (k + 1) - p k) = gain at hfx
    have hrise := hq k hk
    have hstays : gain < q (k + 1) - q k :=
      hgain ▸ Nat.div_lt_of_lt_mul (Nat.mul_lt_mul_of_pos_right (by omega) (by omega))
    have hback : gain * (p (k + 1) - p k) / (q (k + 1) - q k) ≤ x - p k := hgain ▸ mul_div_mul_div_le ..
    rw [hgSeg k hk (by omega) (by omega), hfx, Nat.add_sub_cancel_left]
    omega
  · obtain ⟨-, hfLast, -⟩ := hf x
    obtain ⟨-, hgLast, -⟩ := hg (q n)
    rw [hfLast hlast, hgLast (Nat.le_refl _)]
    exact hlast

end

/-- Settles O34: both lookups are `lookupPoints` on the table's columns, one way and the other, and the third clause
follows from what they are. -/
theorem lookups : Obligations.Lookups := by
  intro c hP hS hincP hincS
  have hchar := interpolates_lookupPoints_zip hP hS hincP
  have hinv := interpolates_lookupPoints_zip hS hP hincS
  have hq (k : Nat) (hk : k < 7) : c.charS.getD k 0 < c.charS.getD (k + 1) 0 :=
    getD_lt_getD_succ_of_increasing hincS (by omega)
  exact ⟨hchar, hinv, fun x => ⟨hchar.comp_le hinv hq, hchar.comp_of_lt_first hinv⟩⟩

end Sys2Proof.Machine

/-! A station's own flags and its notify line (R178 to R182): what the operations of a flag unit leave of its fields,
how the line follows the unit, and what each of the three requests leaves of the state. -/

namespace Sys2Proof.Machine

/-! ### The flag unit -/

/-- A pulse starts for a flag set from clear under a mask that lets it through, on a PULSE line alone (R182). -/
theorem raise_pulseLeft (u : FlagUnit) (n : Nat) :
    (u.raise n).pulseLeft =
      if u.mode = .pulse ∧ u.flags.getLsbD n = false ∧ u.mask.getLsbD n = false then 1000 else u.pulseLeft := by
  unfold FlagUnit.raise
  split
  · next hset => simp [hset]
  · next hclear => simp [hclear, notifyPulse]

theorem afterRead_getLsbD (u : FlagUnit) (n : Nat) :
    u.afterRead.flags.getLsbD n = (u.flags.getLsbD n && u.holds.getLsbD n) :=
  BitVec.getLsbD_and

theorem withMask_getLsbD (u : FlagUnit) (st : Station) (mask : Nat) (n : Fin 16) :
    (u.withMask st (BitVec.ofNat 16 mask)).mask.getLsbD n.val =
      (bitAt mask n.val || !(catalogue st).getLsbD n.val) := by
  rw [FlagUnit.withMask, BitVec.getLsbD_or, BitVec.getLsbD_ofNat, BitVec.getLsbD_not, bitAt,
    Nat.testBit_eq_decide_div_mod_eq]
  simp only [n.isLt, decide_true, Bool.true_and]

theorem notifyModeOfCode_of_le {m : Nat} (h : m ≤ 1) :
    notifyModeOfCode m = some (if m = 0 then .level else .pulse) := by
  obtain rfl | rfl := Nat.le_one_iff_eq_zero_or_eq_one.1 h <;> rfl

theorem polarityOfCode_of_le {p : Nat} (h : p ≤ 1) :
    polarityOfCode p = some (if p = 0 then .activeLow else .activeHigh) := by
  obtain rfl | rfl := Nat.le_one_iff_eq_zero_or_eq_one.1 h <;> rfl

theorem notifyModeOfCode_eq_none {m : Nat} (h : 1 < m) : notifyModeOfCode m = none := by
  match m with
  | _ + 2 => rfl

theorem polarityOfCode_eq_none {p : Nat} (h : 1 < p) : polarityOfCode p = none := by
  match p with
  | _ + 2 => rfl

theorem notifyMode_code_of_le {m : Nat} (h : m ≤ 1) : (if m = 0 then NotifyMode.level else .pulse).code = m := by
  obtain rfl | rfl := Nat.le_one_iff_eq_zero_or_eq_one.1 h <;> rfl

theorem polarity_code_of_le {p : Nat} (h : p ≤ 1) : (if p = 0 then Polarity.activeLow else .activeHigh).code = p := by
  obtain rfl | rfl := Nat.le_one_iff_eq_zero_or_eq_one.1 h <;> rfl

/-! ### Flags of the state -/

@[simp] theorem setFlag_get_station (x : Flag) (s : State) :
    (setFlag x s).flags.get x.station = (s.flags.get x.station).raise x.pos :=
  PerStation.get_set_self ..

theorem setFlag_flagSet_self (x : Flag) (s : State) : (setFlag x s).flagSet x = true := by
  simp [State.flagSet, raise_getLsbD _ _ _ x.pos_lt]

/-- A request's lost answer moves no flag (R169). -/
theorem answerCollision_flags {readBack : List Byte} {s t : State}
    (h : exec (.answerCollision readBack) s = .next t) : t.flags = s.flags := by
  cases h
  split <;> rfl

/-! ### The notify line -/

section
variable {s : State} {st : Station} (running : s.pins.resetLow = false)
include running

theorem notifyHigh_of_running :
    s.notifyHigh st = ((!(s.flags.get st).asserted) == decide ((s.flags.get st).polarity = .activeLow)) := by
  unfold State.notifyHigh
  cases (s.flags.get st).polarity <;> simp [running]

theorem notifyHigh_of_level (hmode : (s.flags.get st).mode = .level) :
    s.notifyHigh st = (decide ((s.flags.get st).flags &&& ~~~ (s.flags.get st).mask = 0#16) ==
      decide ((s.flags.get st).polarity = .activeLow)) := by
  simp only [notifyHigh_of_running running, FlagUnit.asserted, hmode, bne, Bool.not_not]
  rfl

theorem notifyHigh_of_pulse (hmode : (s.flags.get st).mode = .pulse) :
    s.notifyHigh st = (decide ((s.flags.get st).pulseLeft = 0) ==
      decide ((s.flags.get st).polarity = .activeLow)) := by
  simp only [notifyHigh_of_running running, FlagUnit.asserted, hmode, bne, Bool.not_not]
  rfl

/-- A PULSE line follows neither the flags nor the mask (R181, R182). -/
theorem notifyHigh_eq_of_pulse {t : State} (running' : t.pins.resetLow = false)
    (hmode : (t.flags.get st).mode = .pulse)
    (hunit : { t.flags.get st with flags := (s.flags.get st).flags, mask := (s.flags.get st).mask } =
      s.flags.get st) :
    t.notifyHigh st = s.notifyHigh st := by
  have hmode' : (s.flags.get st).mode = .pulse := by rw [← hunit]; exact hmode
  rw [notifyHigh_of_pulse running' hmode, notifyHigh_of_pulse running hmode', ← hunit]

end

/-! ### The three requests -/

/-- The state after a request that moves the sender's flag unit alone and is answered. -/
def State.unitAnswered (s : State) (st : Station) (u : FlagUnit) (kind : Byte) (f : Frame) (c : Code)
    (payload : List Byte) : State :=
  { s.setFlagUnit st u with bus := s.bus.answering kind f c payload }

section
variable {f : Frame} {st : Station} {l : Line} {s : State}

@[simp] theorem unitAnswered_get (u : FlagUnit) (kind : Byte) (c : Code) (payload : List Byte) :
    (s.unitAnswered st u kind f c payload).flags.get st = u :=
  PerStation.get_set_self ..

@[simp] theorem unitAnswered_flagSet (x : Flag) (u : FlagUnit) (kind : Byte) (c : Code) (payload : List Byte) :
    (s.unitAnswered x.station u kind f c payload).flagSet x = u.flags.getLsbD x.pos := by
  rw [State.flagSet, unitAnswered_get]

theorem exec_flagsRead_of_reaches (h : Reaches .flagsRead f st l s) :
    exec (.flagsRead f) s = .next (s.unitAnswered st (s.flags.get st).afterRead 0x50#8 f .accepted
      (u16 (s.flags.get st).flags.toNat ++ u16 (s.flags.get st).afterRead.flags.toNat ++
        u16 (s.flags.get st).mask.toNat ++ u8 (s.flags.get st).mode.code ++ u8 (s.flags.get st).polarity.code)) :=
  congrArg Host.Outcome.next (request_reaches h _)

theorem exec_maskWrite_of_reaches (h : Reaches .maskWrite f st l s) :
    let v := (s.flags.get st).withMask st (BitVec.ofNat 16 (word16 f.payload 0))
    exec (.maskWrite f) s = .next (s.unitAnswered st v 0x51#8 f .accepted
      (u16 v.mask.toNat ++ u16 (s.flags.get st).flags.toNat)) :=
  congrArg Host.Outcome.next (request_reaches h _)

theorem exec_notifyMode_of_reaches (h : Reaches .notifyMode f st l s) :
    exec (.notifyMode f) s = .next ((ownNotifyMode st (byteAt f.payload 0) (byteAt f.payload 1)
      (s.setBus (s.bus.passed 0x52#8 f))).answered 0x52#8 f) :=
  congrArg Host.Outcome.next (request_reaches h _)

theorem ownNotifyMode_refused {m p : Nat} (h : 1 < m ∨ 1 < p) (s : State) :
    ownNotifyMode st m p s = notifyReply st .badValue s := by
  unfold ownNotifyMode
  rcases h with hm | hp
  · rw [notifyModeOfCode_eq_none hm]
  · rw [polarityOfCode_eq_none hp]
    cases notifyModeOfCode m <;> rfl

theorem ownNotifyMode_accepted {m p : Nat} (hm : m ≤ 1) (hp : p ≤ 1) (s : State) :
    ownNotifyMode st m p s =
      ⟨s.setFlagUnit st ((s.flags.get st).withMode (if m = 0 then .level else .pulse)
        (if p = 0 then .activeLow else .activeHigh)), .accepted,
        u8 m ++ u8 p ++ u16 (s.flags.get st).flags.toNat⟩ := by
  unfold ownNotifyMode
  simp [notifyModeOfCode_of_le hm, polarityOfCode_of_le hp, notifyReply, FlagUnit.withMode, notifyMode_code_of_le hm,
    polarity_code_of_le hp]

theorem exec_notifyMode_accepted (h : Reaches .notifyMode f st l s) (hm : byteAt f.payload 0 ≤ 1)
    (hp : byteAt f.payload 1 ≤ 1) :
    exec (.notifyMode f) s = .next (s.unitAnswered st
      ((s.flags.get st).withMode (if byteAt f.payload 0 = 0 then .level else .pulse)
        (if byteAt f.payload 1 = 0 then .activeLow else .activeHigh)) 0x52#8 f .accepted
      (u8 (byteAt f.payload 0) ++ u8 (byteAt f.payload 1) ++ u16 (s.flags.get st).flags.toNat)) := by
  rw [exec_notifyMode_of_reaches h, ownNotifyMode_accepted hm hp]
  rfl

end

/-- Settles O45: the unit after the read keeps the flags whose condition holds, and no event's condition does
(`FlagSound`). -/
theorem flagsRead : Obligations.FlagsRead := by
  intro f st l s h sound
  refine ⟨_, exec_flagsRead_of_reaches h, ?_⟩
  have hunit := unitAnswered_get (s := s) (st := st) (f := f) (s.flags.get st).afterRead
  refine ⟨?answer, ?frame, ?unit, ?flags, notifyHigh_of_level h.running,
    fun hmode => notifyHigh_eq_of_pulse h.running h.running hmode ?line, fun _ _ => answerCollision_flags⟩
  case answer | frame | unit | line => rw [hunit]; rfl
  case flags =>
    rintro x rfl
    obtain ⟨-, -, -, -, noEventHolds⟩ := sound x.station
    rw [unitAnswered_flagSet, afterRead_getLsbD]
    refine ⟨fun hevent => ?_, fun _ => rfl, setFlag_flagSet_self ..⟩
    have hends : (s.flags.get x.station).holds.getLsbD x.pos = false := noEventHolds x rfl hevent
    rw [hends, Bool.and_false]

/-- Settles O46: the unit under its new mask keeps every other field, so what a later setting finds is the old unit's
set under that mask. -/
theorem maskWrite : Obligations.MaskWrite := by
  intro f st l s h
  refine ⟨_, exec_maskWrite_of_reaches h, ?_⟩
  have hunit := unitAnswered_get (s := s) (st := st) (f := f)
    ((s.flags.get st).withMask st (BitVec.ofNat 16 (word16 f.payload 0)))
  refine ⟨?answer, ?frame, ?unit, fun n => ?mask, notifyHigh_of_level h.running,
    fun hmode => ⟨notifyHigh_eq_of_pulse h.running h.running hmode ?line, ?later⟩⟩
  case answer | frame | unit | line => rw [hunit]; rfl
  case mask => rw [hunit]; exact withMask_getLsbD ..
  case later =>
    rintro x rfl
    rw [setFlag_get_station, raise_pulseLeft, hmode, unitAnswered_flagSet, hunit]
    simp only [true_and]
    rfl

/-- Settles O47: a code outside the two of each leaves the unit, and the codes 0 and 1 name its new mode and
polarity. -/
theorem notifyMode : Obligations.NotifyMode := by
  intro f st l s h
  dsimp only
  refine ⟨fun hcodes => ?refused, fun hm hp => ?accepted⟩
  case refused =>
    rw [exec_notifyMode_of_reaches h, ownNotifyMode_refused hcodes]
    rfl
  case accepted =>
    refine ⟨_, exec_notifyMode_accepted h hm hp, rfl, rfl, fun hm0 => ?level, fun hm1 => ?pulse⟩
    case level =>
      rw [notifyHigh_of_level (s := s.unitAnswered ..) h.running (by simp [FlagUnit.withMode, hm0])]
      simp [FlagUnit.withMode]
    case pulse =>
      rw [notifyHigh_of_pulse (s := s.unitAnswered ..) h.running (by simp [FlagUnit.withMode, hm1])]
      simp [FlagUnit.withMode]

end Sys2Proof.Machine
